-- ==== Sys2Proof/Word.lean ====
section
/-! DEFINITION. The two word types of the bo8 (R5 of spec/00_scope.md: 8 data lines, 16 address lines). -/

namespace Sys2Proof

/-- The width of A, B, of a memory byte and of the data bus (R5). -/
abbrev Byte := BitVec 8

/-- The width of K, P, Q, R, S, X, Y, Z and of the address bus (R5). -/
abbrev Word := BitVec 16

end Sys2Proof
end

