-- ==== Sys2Proof/Config.lean ====
section
/-! DEFINITION. What the platform or the implementation fixes (R5 of spec/00_scope.md) and the free values: the parameters
START and A0, the content of memory nothing has written, the open parameter FETCH_ORDER, the input bytes, what a reset
leaves in the registers it does not load; the parameter PLATFORM. A free value is an `opaque` constant: nothing can be proved of its value. -/

namespace Sys2Proof

/-- START (R5, R38): the address the platform drives on the address bus at the power-on reset.
DESIGN CHOICE (log entry 1, unsafe): 0x0100, where every program and example of the spec starts (spec/95). -/
def Config.start : Word := 0x0100

/-- A0 (R5, R38): the byte the platform drives on the data bus at the power-on reset.
DESIGN CHOICE (log entry 1, unsafe): 0x00, as in the programs of spec/95. -/
def Config.a0 : Byte := 0x00

/-- What an address that memory does not list reads as: the content of a byte nothing has written (U7: any value).
DESIGN CHOICE (log entry 3, unsafe): 0x00. -/
def Config.unwrittenByte : Byte := 0x00

/-- The two values of FETCH_ORDER (D13): the fetch of the following opcode precedes or follows the data access. -/
inductive FetchOrder where
  | fetchFirst
  | dataFirst
deriving DecidableEq, Repr, Inhabited

/-- FETCH_ORDER (R5, R62, D13): open, so a free value (log entry 4). -/
opaque Config.fetchOrder : FetchOrder

/-- The byte the `n`-th I/O input delivers for the word `k` on the address bus (R56, D15, U3), where the environment has
not queued one: a free value (log entry 5). -/
opaque Config.ioInput (n : Nat) (k : Word) : Byte

/-- B after the `n`-th reset taken by a step (R38, U1): a free value (log entry 6), as the six that follow. -/
opaque Config.resetB (n : Nat) : Byte
/-- Q after the `n`-th reset (U1). -/
opaque Config.resetQ (n : Nat) : Word
/-- S after the `n`-th reset (U1). -/
opaque Config.resetS (n : Nat) : Word
/-- X after the `n`-th reset (U1). -/
opaque Config.resetX (n : Nat) : Word
/-- Y after the `n`-th reset (U1). -/
opaque Config.resetY (n : Nat) : Word
/-- Z after the `n`-th reset (U1). -/
opaque Config.resetZ (n : Nat) : Word
/-- V after the `n`-th reset (U1). -/
opaque Config.resetV (n : Nat) : Bool

/-- How many platform actions of the instruction that the `n`-th reset abandons had happened (R402, D24, U6: any prefix
of its effects): a free value (log entry 6). -/
opaque Config.abandonedAfter (n : Nat) : Nat

/-! The parameter PLATFORM (R5, R55, D14, U4, U11; log entry 7): the operations of a platform other than the default, as
free functions of the access and of the platform's own state, a number (any countable set of states is coded in the
numbers). What is proved of them holds for every such platform; a claim about one of them takes its operations as a
hypothesis on these constants. -/

/-- The sixteen bus-cycle types of R51, by the names of the table. -/
inductive Machine.BusType where
  | BN | AR | KA | HA | BP | BX | BY | BZ | FE | WX | WY | WZ | RP | RX | RY | RZ
deriving DecidableEq, Repr

/-- `read(Pi, t, addr)`: the byte delivered and the platform's next state, so a read may have side effects (U11). -/
opaque Config.platformRead (t : Machine.BusType) (addr : Word) (pi : Nat) : Byte × Nat
/-- `write(Pi, t, addr, v)`. -/
opaque Config.platformWrite (t : Machine.BusType) (addr : Word) (v : Byte) (pi : Nat) : Nat
/-- `ioread(Pi, k)`. -/
opaque Config.platformIoRead (k : Word) (pi : Nat) : Byte × Nat
/-- `kout(Pi, k)`. -/
opaque Config.platformKOut (k : Word) (pi : Nat) : Nat
/-- `pageswitch(Pi, r, prev)`, r by its tB type. -/
opaque Config.platformPageSwitch (t prev : Machine.BusType) (pi : Nat) : Nat
/-- What `n` cycles whose bus activity the spec does not state do to the platform, those before the fetch of the following
opcode (`fetched` false) and those after it: a free function (N9, U10, U11). -/
opaque Config.platformUnstated (fetched : Bool) (n : Nat) (pi : Nat) : Nat

end Sys2Proof
end

