-- ==== Sys2Proof/Syntax.lean ====
section
/-! DEFINITION. The instructions of the bo8: one constructor per row of spec/opcode_table.json, in the order of the opcode
map (R84 of spec/30_encoding.md). The register `%`, the count `s` and the condition `cc` are part of the opcode (R81), so
they are part of the constructor's name; a two-byte instruction carries its operand byte `nn` (R82). -/

namespace Sys2Proof

/-- The 256 instructions (R84, R86). -/
inductive Instr where
  /-- `H..`, opcode 0x00 (R333). -/
  | h
  /-- `ST.S`, opcode 0x01 (R171). -/
  | stS
  /-- `SS.X`, opcode 0x02 (R181). -/
  | ssX
  /-- `ST.X`, opcode 0x03 (R175). -/
  | stX
  /-- `SS.Y`, opcode 0x04 (R182). -/
  | ssY
  /-- `ST.Y`, opcode 0x05 (R176). -/
  | stY
  /-- `SS.Z`, opcode 0x06 (R183). -/
  | ssZ
  /-- `ST.Z`, opcode 0x07 (R177). -/
  | stZ
  /-- `IX0`, opcode 0x08 (R250). -/
  | ix0
  /-- `IX1`, opcode 0x09 (R250). -/
  | ix1
  /-- `IX2`, opcode 0x0a (R250). -/
  | ix2
  /-- `IX3`, opcode 0x0b (R250). -/
  | ix3
  /-- `IX4`, opcode 0x0c (R250). -/
  | ix4
  /-- `IX5`, opcode 0x0d (R250). -/
  | ix5
  /-- `IX6`, opcode 0x0e (R250). -/
  | ix6
  /-- `IX7`, opcode 0x0f (R250). -/
  | ix7
  /-- `IY0`, opcode 0x10 (R251). -/
  | iy0
  /-- `IY1`, opcode 0x11 (R251). -/
  | iy1
  /-- `IY2`, opcode 0x12 (R251). -/
  | iy2
  /-- `IY3`, opcode 0x13 (R251). -/
  | iy3
  /-- `IY4`, opcode 0x14 (R251). -/
  | iy4
  /-- `IY5`, opcode 0x15 (R251). -/
  | iy5
  /-- `IY6`, opcode 0x16 (R251). -/
  | iy6
  /-- `IY7`, opcode 0x17 (R251). -/
  | iy7
  /-- `IZ0`, opcode 0x18 (R252). -/
  | iz0
  /-- `IZ1`, opcode 0x19 (R252). -/
  | iz1
  /-- `IZ2`, opcode 0x1a (R252). -/
  | iz2
  /-- `IZ3`, opcode 0x1b (R252). -/
  | iz3
  /-- `IZ4`, opcode 0x1c (R252). -/
  | iz4
  /-- `IZ5`, opcode 0x1d (R252). -/
  | iz5
  /-- `IZ6`, opcode 0x1e (R252). -/
  | iz6
  /-- `IZ7`, opcode 0x1f (R252). -/
  | iz7
  /-- `ZO.S`, opcode 0x20 (R204). -/
  | zoS
  /-- `SL.S`, opcode 0x21 (R185). -/
  | slS
  /-- `ZO.X`, opcode 0x22 (R205). -/
  | zoX
  /-- `SL.X`, opcode 0x23 (R186). -/
  | slX
  /-- `ZO.Y`, opcode 0x24 (R206). -/
  | zoY
  /-- `SL.Y`, opcode 0x25 (R187). -/
  | slY
  /-- `ZO.Z`, opcode 0x26 (R207). -/
  | zoZ
  /-- `SL.Z`, opcode 0x27 (R188). -/
  | slZ
  /-- `DX0`, opcode 0x28 (R253). -/
  | dx0
  /-- `DX1`, opcode 0x29 (R253). -/
  | dx1
  /-- `DX2`, opcode 0x2a (R253). -/
  | dx2
  /-- `DX3`, opcode 0x2b (R253). -/
  | dx3
  /-- `DX4`, opcode 0x2c (R253). -/
  | dx4
  /-- `DX5`, opcode 0x2d (R253). -/
  | dx5
  /-- `DX6`, opcode 0x2e (R253). -/
  | dx6
  /-- `DX7`, opcode 0x2f (R253). -/
  | dx7
  /-- `DY0`, opcode 0x30 (R254). -/
  | dy0
  /-- `DY1`, opcode 0x31 (R254). -/
  | dy1
  /-- `DY2`, opcode 0x32 (R254). -/
  | dy2
  /-- `DY3`, opcode 0x33 (R254). -/
  | dy3
  /-- `DY4`, opcode 0x34 (R254). -/
  | dy4
  /-- `DY5`, opcode 0x35 (R254). -/
  | dy5
  /-- `DY6`, opcode 0x36 (R254). -/
  | dy6
  /-- `DY7`, opcode 0x37 (R254). -/
  | dy7
  /-- `DZ0`, opcode 0x38 (R255). -/
  | dz0
  /-- `DZ1`, opcode 0x39 (R255). -/
  | dz1
  /-- `DZ2`, opcode 0x3a (R255). -/
  | dz2
  /-- `DZ3`, opcode 0x3b (R255). -/
  | dz3
  /-- `DZ4`, opcode 0x3c (R255). -/
  | dz4
  /-- `DZ5`, opcode 0x3d (R255). -/
  | dz5
  /-- `DZ6`, opcode 0x3e (R255). -/
  | dz6
  /-- `DZ7`, opcode 0x3f (R255). -/
  | dz7
  /-- `O.VZ nn`, opcode 0x40 (R294). -/
  | oVZ (nn : Byte)
  /-- `O.VS nn`, opcode 0x41 (R295). -/
  | oVS (nn : Byte)
  /-- `B.VZ nn`, opcode 0x42 (R303). -/
  | bVZ (nn : Byte)
  /-- `B.VS nn`, opcode 0x43 (R304). -/
  | bVS (nn : Byte)
  /-- `O.UZ nn`, opcode 0x44 (R296). -/
  | oUZ (nn : Byte)
  /-- `O.US nn`, opcode 0x45 (R297). -/
  | oUS (nn : Byte)
  /-- `B.UZ nn`, opcode 0x46 (R305). -/
  | bUZ (nn : Byte)
  /-- `B.US nn`, opcode 0x47 (R306). -/
  | bUS (nn : Byte)
  /-- `O.AZ nn`, opcode 0x48 (R298). -/
  | oAZ (nn : Byte)
  /-- `O.AS nn`, opcode 0x49 (R299). -/
  | oAS (nn : Byte)
  /-- `B.AZ nn`, opcode 0x4a (R307). -/
  | bAZ (nn : Byte)
  /-- `B.AS nn`, opcode 0x4b (R308). -/
  | bAS (nn : Byte)
  /-- `O.KZ nn`, opcode 0x4c (R300). -/
  | oKZ (nn : Byte)
  /-- `O.KS nn`, opcode 0x4d (R301). -/
  | oKS (nn : Byte)
  /-- `B.KZ nn`, opcode 0x4e (R309). -/
  | bKZ (nn : Byte)
  /-- `B.KS nn`, opcode 0x4f (R310). -/
  | bKS (nn : Byte)
  /-- `O.WY nn`, opcode 0x50 (R293). -/
  | oWY (nn : Byte)
  /-- `O.RP nn`, opcode 0x51 (R292). -/
  | oRP (nn : Byte)
  /-- `B.WY nn`, opcode 0x52 (R302). -/
  | bWY (nn : Byte)
  /-- `B.CN nn`, opcode 0x53 (R311). -/
  | bCN (nn : Byte)
  /-- `GTR nn`, opcode 0x54 (R281). -/
  | gtr (nn : Byte)
  /-- `ADR nn`, opcode 0x55 (R282). -/
  | adr (nn : Byte)
  /-- `GTA nn`, opcode 0x56 (R280). -/
  | gta (nn : Byte)
  /-- `NOL nn`, opcode 0x57 (R285). -/
  | nol (nn : Byte)
  /-- `IKL nn`, opcode 0x58 (R262). -/
  | ikl (nn : Byte)
  /-- `DKL nn`, opcode 0x59 (R263). -/
  | dkl (nn : Byte)
  /-- `IXL nn`, opcode 0x5a (R264). -/
  | ixl (nn : Byte)
  /-- `DXL nn`, opcode 0x5b (R267). -/
  | dxl (nn : Byte)
  /-- `IYL nn`, opcode 0x5c (R265). -/
  | iyl (nn : Byte)
  /-- `DYL nn`, opcode 0x5d (R268). -/
  | dyl (nn : Byte)
  /-- `IZL nn`, opcode 0x5e (R266). -/
  | izl (nn : Byte)
  /-- `DZL nn`, opcode 0x5f (R269). -/
  | dzl (nn : Byte)
  /-- `AD. nn`, opcode 0x60 (R115). -/
  | ad (nn : Byte)
  /-- `LV. nn`, opcode 0x61 (R113). -/
  | lv (nn : Byte)
  /-- `AV. nn`, opcode 0x62 (R111). -/
  | av (nn : Byte)
  /-- `SV. nn`, opcode 0x63 (R112). -/
  | sv (nn : Byte)
  /-- `GT. nn`, opcode 0x64 (R114). -/
  | gt (nn : Byte)
  /-- `AN. nn`, opcode 0x65 (R108). -/
  | an (nn : Byte)
  /-- `XR. nn`, opcode 0x66 (R110). -/
  | xr (nn : Byte)
  /-- `NR. nn`, opcode 0x67 (R109). -/
  | nr (nn : Byte)
  /-- `STMX`, opcode 0x68 (R141). -/
  | stmx
  /-- `LVMX`, opcode 0x69 (R135). -/
  | lvmx
  /-- `AVMX`, opcode 0x6a (R129). -/
  | avmx
  /-- `SVMX`, opcode 0x6b (R132). -/
  | svmx
  /-- `GTMX`, opcode 0x6c (R138). -/
  | gtmx
  /-- `ANMX`, opcode 0x6d (R120). -/
  | anmx
  /-- `XRMX`, opcode 0x6e (R126). -/
  | xrmx
  /-- `NRMX`, opcode 0x6f (R123). -/
  | nrmx
  /-- `STMY`, opcode 0x70 (R142). -/
  | stmy
  /-- `LVMY`, opcode 0x71 (R136). -/
  | lvmy
  /-- `AVMY`, opcode 0x72 (R130). -/
  | avmy
  /-- `SVMY`, opcode 0x73 (R133). -/
  | svmy
  /-- `GTMY`, opcode 0x74 (R139). -/
  | gtmy
  /-- `ANMY`, opcode 0x75 (R121). -/
  | anmy
  /-- `XRMY`, opcode 0x76 (R127). -/
  | xrmy
  /-- `NRMY`, opcode 0x77 (R124). -/
  | nrmy
  /-- `STMZ`, opcode 0x78 (R143). -/
  | stmz
  /-- `LVMZ`, opcode 0x79 (R137). -/
  | lvmz
  /-- `AVMZ`, opcode 0x7a (R131). -/
  | avmz
  /-- `SVMZ`, opcode 0x7b (R134). -/
  | svmz
  /-- `GTMZ`, opcode 0x7c (R140). -/
  | gtmz
  /-- `ANMZ`, opcode 0x7d (R122). -/
  | anmz
  /-- `XRMZ`, opcode 0x7e (R128). -/
  | xrmz
  /-- `NRMZ`, opcode 0x7f (R125). -/
  | nrmz
  /-- `NO2`, opcode 0x80 (R284). -/
  | no2
  /-- `TK1`, opcode 0x81 (R241). -/
  | tk1
  /-- `TK2`, opcode 0x82 (R241). -/
  | tk2
  /-- `TK3`, opcode 0x83 (R241). -/
  | tk3
  /-- `TK4`, opcode 0x84 (R241). -/
  | tk4
  /-- `TK5`, opcode 0x85 (R241). -/
  | tk5
  /-- `TK6`, opcode 0x86 (R241). -/
  | tk6
  /-- `TK7`, opcode 0x87 (R241). -/
  | tk7
  /-- `TK8`, opcode 0x88 (R241). -/
  | tk8
  /-- `TK9`, opcode 0x89 (R241). -/
  | tk9
  /-- `TKa`, opcode 0x8a (R241). -/
  | tka
  /-- `TKb`, opcode 0x8b (R241). -/
  | tkb
  /-- `TKc`, opcode 0x8c (R241). -/
  | tkc
  /-- `TKd`, opcode 0x8d (R241). -/
  | tkd
  /-- `TKe`, opcode 0x8e (R241). -/
  | tke
  /-- `TKf`, opcode 0x8f (R241). -/
  | tkf
  /-- `NO1`, opcode 0x90 (R283). -/
  | no1
  /-- `TA1`, opcode 0x91 (R240). -/
  | ta1
  /-- `TA2`, opcode 0x92 (R240). -/
  | ta2
  /-- `TA3`, opcode 0x93 (R240). -/
  | ta3
  /-- `TA4`, opcode 0x94 (R240). -/
  | ta4
  /-- `TA5`, opcode 0x95 (R240). -/
  | ta5
  /-- `TA6`, opcode 0x96 (R240). -/
  | ta6
  /-- `TA7`, opcode 0x97 (R240). -/
  | ta7
  /-- `ST.B`, opcode 0x98 (R107). -/
  | stB
  /-- `LV.B`, opcode 0x99 (R105). -/
  | lvB
  /-- `AV.B`, opcode 0x9a (R103). -/
  | avB
  /-- `SV.B`, opcode 0x9b (R104). -/
  | svB
  /-- `GT.B`, opcode 0x9c (R106). -/
  | gtB
  /-- `AN.B`, opcode 0x9d (R100). -/
  | anB
  /-- `XR.B`, opcode 0x9e (R102). -/
  | xrB
  /-- `NR.B`, opcode 0x9f (R101). -/
  | nrB
  /-- `EX.S`, opcode 0xa0 (R197). -/
  | exS
  /-- `LV.S`, opcode 0xa1 (R152). -/
  | lvS
  /-- `AV.S`, opcode 0xa2 (R150). -/
  | avS
  /-- `SV.S`, opcode 0xa3 (R151). -/
  | svS
  /-- `GT.S`, opcode 0xa4 (R170). -/
  | gtS
  /-- `LD.S`, opcode 0xa5 (R155). -/
  | ldS
  /-- `AD.S`, opcode 0xa6 (R153). -/
  | adS
  /-- `SD.S`, opcode 0xa7 (R154). -/
  | sdS
  /-- `EX.X`, opcode 0xa8 (R198). -/
  | exX
  /-- `ES.X`, opcode 0xa9 (R201). -/
  | esX
  /-- `SW.X`, opcode 0xaa (R330). -/
  | swX
  /-- `RS.X`, opcode 0xab (R178). -/
  | rsX
  /-- `GT.X`, opcode 0xac (R172). -/
  | gtX
  /-- `LD.X`, opcode 0xad (R162). -/
  | ldX
  /-- `AD.X`, opcode 0xae (R156). -/
  | adX
  /-- `SD.X`, opcode 0xaf (R159). -/
  | sdX
  /-- `EX.Y`, opcode 0xb0 (R199). -/
  | exY
  /-- `ES.Y`, opcode 0xb1 (R202). -/
  | esY
  /-- `SW.Y`, opcode 0xb2 (R331). -/
  | swY
  /-- `RS.Y`, opcode 0xb3 (R179). -/
  | rsY
  /-- `GT.Y`, opcode 0xb4 (R173). -/
  | gtY
  /-- `LD.Y`, opcode 0xb5 (R163). -/
  | ldY
  /-- `AD.Y`, opcode 0xb6 (R157). -/
  | adY
  /-- `SD.Y`, opcode 0xb7 (R160). -/
  | sdY
  /-- `EX.Z`, opcode 0xb8 (R200). -/
  | exZ
  /-- `ES.Z`, opcode 0xb9 (R203). -/
  | esZ
  /-- `SW.Z`, opcode 0xba (R332). -/
  | swZ
  /-- `RS.Z`, opcode 0xbb (R180). -/
  | rsZ
  /-- `GT.Z`, opcode 0xbc (R174). -/
  | gtZ
  /-- `LD.Z`, opcode 0xbd (R164). -/
  | ldZ
  /-- `AD.Z`, opcode 0xbe (R158). -/
  | adZ
  /-- `SD.Z`, opcode 0xbf (R161). -/
  | sdZ
  /-- `R.VZ`, opcode 0xc0 (R313). -/
  | rVZ
  /-- `R.VS`, opcode 0xc1 (R314). -/
  | rVS
  /-- `R.UZ`, opcode 0xc2 (R315). -/
  | rUZ
  /-- `R.US`, opcode 0xc3 (R316). -/
  | rUS
  /-- `R.AZ`, opcode 0xc4 (R317). -/
  | rAZ
  /-- `R.AS`, opcode 0xc5 (R318). -/
  | rAS
  /-- `R.KZ`, opcode 0xc6 (R319). -/
  | rKZ
  /-- `R.KS`, opcode 0xc7 (R320). -/
  | rKS
  /-- `R.WY`, opcode 0xc8 (R312). -/
  | rWY
  /-- `R.CN`, opcode 0xc9 (R321). -/
  | rCN
  /-- `R.IX`, opcode 0xca (R322). -/
  | rIX
  /-- `R.DX`, opcode 0xcb (R325). -/
  | rDX
  /-- `R.IY`, opcode 0xcc (R323). -/
  | rIY
  /-- `R.DY`, opcode 0xcd (R326). -/
  | rDY
  /-- `R.IZ`, opcode 0xce (R324). -/
  | rIZ
  /-- `R.DZ`, opcode 0xcf (R327). -/
  | rDZ
  /-- `GH.S`, opcode 0xd0 (R190). -/
  | ghS
  /-- `GL.S`, opcode 0xd1 (R189). -/
  | glS
  /-- `GH.X`, opcode 0xd2 (R194). -/
  | ghX
  /-- `GL.X`, opcode 0xd3 (R191). -/
  | glX
  /-- `GH.Y`, opcode 0xd4 (R195). -/
  | ghY
  /-- `GL.Y`, opcode 0xd5 (R192). -/
  | glY
  /-- `GH.Z`, opcode 0xd6 (R196). -/
  | ghZ
  /-- `GL.Z`, opcode 0xd7 (R193). -/
  | glZ
  /-- `IC.S`, opcode 0xd8 (R228). -/
  | icS
  /-- `DC.S`, opcode 0xd9 (R231). -/
  | dcS
  /-- `IXE`, opcode 0xda (R256). -/
  | ixe
  /-- `DXE`, opcode 0xdb (R259). -/
  | dxe
  /-- `IYE`, opcode 0xdc (R257). -/
  | iye
  /-- `DYE`, opcode 0xdd (R260). -/
  | dye
  /-- `IZE`, opcode 0xde (R258). -/
  | ize
  /-- `DZE`, opcode 0xdf (R261). -/
  | dze
  /-- `ZO.U`, opcode 0xe0 (R214). -/
  | zoU
  /-- `SE.U`, opcode 0xe1 (R215). -/
  | seU
  /-- `ZO.V`, opcode 0xe2 (R210). -/
  | zoV
  /-- `SE.V`, opcode 0xe3 (R211). -/
  | seV
  /-- `CP.U`, opcode 0xe4 (R217). -/
  | cpU
  /-- `NE.U`, opcode 0xe5 (R216). -/
  | neU
  /-- `CP.V`, opcode 0xe6 (R213). -/
  | cpV
  /-- `NE.V`, opcode 0xe7 (R212). -/
  | neV
  /-- `PV.A`, opcode 0xe8 (R232). -/
  | pvA
  /-- `TZ.A`, opcode 0xe9 (R234). -/
  | tzA
  /-- `PV.B`, opcode 0xea (R233). -/
  | pvB
  /-- `TZ.B`, opcode 0xeb (R235). -/
  | tzB
  /-- `RD.A`, opcode 0xec (R236). -/
  | rdA
  /-- `RU.A`, opcode 0xed (R238). -/
  | ruA
  /-- `RD.B`, opcode 0xee (R237). -/
  | rdB
  /-- `RU.B`, opcode 0xef (R239). -/
  | ruB
  /-- `ZO.A`, opcode 0xf0 (R221). -/
  | zoA
  /-- `NE.A`, opcode 0xf1 (R218). -/
  | neA
  /-- `ZO.B`, opcode 0xf2 (R222). -/
  | zoB
  /-- `NE.B`, opcode 0xf3 (R219). -/
  | neB
  /-- `IV.A`, opcode 0xf4 (R224). -/
  | ivA
  /-- `DV.A`, opcode 0xf5 (R225). -/
  | dvA
  /-- `SL.K`, opcode 0xf6 (R184). -/
  | slK
  /-- `S.RP`, opcode 0xf7 (R287). -/
  | sRP
  /-- `IC.K`, opcode 0xf8 (R227). -/
  | icK
  /-- `DC.K`, opcode 0xf9 (R230). -/
  | dcK
  /-- `ZO.K`, opcode 0xfa (R223). -/
  | zoK
  /-- `NE.K`, opcode 0xfb (R220). -/
  | neK
  /-- `IC.A`, opcode 0xfc (R226). -/
  | icA
  /-- `DC.A`, opcode 0xfd (R229). -/
  | dcA
  /-- `GT.Q`, opcode 0xfe (R286). -/
  | gtQ
  /-- `J..`, opcode 0xff (R328). -/
  | j
deriving DecidableEq, Repr

/-- An opcode byte with the operand byte that follows it, if one does (formats F1 and F2, R81, R82). -/
structure RawInstr where
  opcode : Byte
  operand : Option Byte
deriving DecidableEq, Repr

end Sys2Proof
end

