-- ==== Sys2Proof/WellFormed.lean ====
section
/-! DEFINITION. When an opcode byte and an operand byte form an instruction of the bo8 (R80, R86 of spec/30_encoding.md).
Every term of `Instr` is well formed (all 256 opcodes and every `nn` are legal, R86); what can be ill formed is a pair of
bytes: an operand missing after a two-byte opcode, or one given to a one-byte opcode. -/

namespace Sys2Proof

/-- The length of an instruction, which its first byte alone decides (R80): 2 for 0x40..0x67, else 1. -/
def opcodeLength (op : Byte) : Nat :=
  if 0x40 ≤ op.toNat ∧ op.toNat ≤ 0x67 then 2 else 1

/-- The operand byte is there exactly when the opcode takes one (R80 to R82). -/
def RawInstr.wellFormed (r : RawInstr) : Bool :=
  r.operand.isSome == (opcodeLength r.opcode == 2)

end Sys2Proof
end

