-- ==== Sys2Proof/Decode.lean ====
section
/-! DEFINITION. The decoder of the bo8, the opcode map of R84 (spec/30_encoding.md) row by row, total on every byte string
(R86) and refusing by name only a string that ends too early; after it the encoder, and the assembler text of R89. -/

namespace Sys2Proof

/-- A cell of the opcode map: a one-byte instruction (F1) or a two-byte instruction that waits for `nn` (F2). -/
inductive OpcodeCell where
  | f1 (i : Instr)
  | f2 (i : Byte → Instr)

/-! The opcode map: the row's name is the opcode of its column +0. -/

/-- Row 0x00: H.. ST.S SS.X ST.X SS.Y ST.Y SS.Z ST.Z. -/
def opcodeRow00 : List OpcodeCell := [.f1 .h, .f1 .stS, .f1 .ssX, .f1 .stX, .f1 .ssY, .f1 .stY, .f1 .ssZ, .f1 .stZ]
/-- Row 0x08: IX0 IX1 IX2 IX3 IX4 IX5 IX6 IX7. -/
def opcodeRow08 : List OpcodeCell := [.f1 .ix0, .f1 .ix1, .f1 .ix2, .f1 .ix3, .f1 .ix4, .f1 .ix5, .f1 .ix6, .f1 .ix7]
/-- Row 0x10: IY0 IY1 IY2 IY3 IY4 IY5 IY6 IY7. -/
def opcodeRow10 : List OpcodeCell := [.f1 .iy0, .f1 .iy1, .f1 .iy2, .f1 .iy3, .f1 .iy4, .f1 .iy5, .f1 .iy6, .f1 .iy7]
/-- Row 0x18: IZ0 IZ1 IZ2 IZ3 IZ4 IZ5 IZ6 IZ7. -/
def opcodeRow18 : List OpcodeCell := [.f1 .iz0, .f1 .iz1, .f1 .iz2, .f1 .iz3, .f1 .iz4, .f1 .iz5, .f1 .iz6, .f1 .iz7]
/-- Row 0x20: ZO.S SL.S ZO.X SL.X ZO.Y SL.Y ZO.Z SL.Z. -/
def opcodeRow20 : List OpcodeCell := [.f1 .zoS, .f1 .slS, .f1 .zoX, .f1 .slX, .f1 .zoY, .f1 .slY, .f1 .zoZ, .f1 .slZ]
/-- Row 0x28: DX0 DX1 DX2 DX3 DX4 DX5 DX6 DX7. -/
def opcodeRow28 : List OpcodeCell := [.f1 .dx0, .f1 .dx1, .f1 .dx2, .f1 .dx3, .f1 .dx4, .f1 .dx5, .f1 .dx6, .f1 .dx7]
/-- Row 0x30: DY0 DY1 DY2 DY3 DY4 DY5 DY6 DY7. -/
def opcodeRow30 : List OpcodeCell := [.f1 .dy0, .f1 .dy1, .f1 .dy2, .f1 .dy3, .f1 .dy4, .f1 .dy5, .f1 .dy6, .f1 .dy7]
/-- Row 0x38: DZ0 DZ1 DZ2 DZ3 DZ4 DZ5 DZ6 DZ7. -/
def opcodeRow38 : List OpcodeCell := [.f1 .dz0, .f1 .dz1, .f1 .dz2, .f1 .dz3, .f1 .dz4, .f1 .dz5, .f1 .dz6, .f1 .dz7]
/-- Row 0x40: O.VZ O.VS B.VZ B.VS O.UZ O.US B.UZ B.US. -/
def opcodeRow40 : List OpcodeCell := [.f2 .oVZ, .f2 .oVS, .f2 .bVZ, .f2 .bVS, .f2 .oUZ, .f2 .oUS, .f2 .bUZ, .f2 .bUS]
/-- Row 0x48: O.AZ O.AS B.AZ B.AS O.KZ O.KS B.KZ B.KS. -/
def opcodeRow48 : List OpcodeCell := [.f2 .oAZ, .f2 .oAS, .f2 .bAZ, .f2 .bAS, .f2 .oKZ, .f2 .oKS, .f2 .bKZ, .f2 .bKS]
/-- Row 0x50: O.WY O.RP B.WY B.CN GTR ADR GTA NOL. -/
def opcodeRow50 : List OpcodeCell := [.f2 .oWY, .f2 .oRP, .f2 .bWY, .f2 .bCN, .f2 .gtr, .f2 .adr, .f2 .gta, .f2 .nol]
/-- Row 0x58: IKL DKL IXL DXL IYL DYL IZL DZL. -/
def opcodeRow58 : List OpcodeCell := [.f2 .ikl, .f2 .dkl, .f2 .ixl, .f2 .dxl, .f2 .iyl, .f2 .dyl, .f2 .izl, .f2 .dzl]
/-- Row 0x60: AD. LV. AV. SV. GT. AN. XR. NR.. -/
def opcodeRow60 : List OpcodeCell := [.f2 .ad, .f2 .lv, .f2 .av, .f2 .sv, .f2 .gt, .f2 .an, .f2 .xr, .f2 .nr]
/-- Row 0x68: STMX LVMX AVMX SVMX GTMX ANMX XRMX NRMX. -/
def opcodeRow68 : List OpcodeCell := [.f1 .stmx, .f1 .lvmx, .f1 .avmx, .f1 .svmx, .f1 .gtmx, .f1 .anmx, .f1 .xrmx, .f1 .nrmx]
/-- Row 0x70: STMY LVMY AVMY SVMY GTMY ANMY XRMY NRMY. -/
def opcodeRow70 : List OpcodeCell := [.f1 .stmy, .f1 .lvmy, .f1 .avmy, .f1 .svmy, .f1 .gtmy, .f1 .anmy, .f1 .xrmy, .f1 .nrmy]
/-- Row 0x78: STMZ LVMZ AVMZ SVMZ GTMZ ANMZ XRMZ NRMZ. -/
def opcodeRow78 : List OpcodeCell := [.f1 .stmz, .f1 .lvmz, .f1 .avmz, .f1 .svmz, .f1 .gtmz, .f1 .anmz, .f1 .xrmz, .f1 .nrmz]
/-- Row 0x80: NO2 TK1 TK2 TK3 TK4 TK5 TK6 TK7. -/
def opcodeRow80 : List OpcodeCell := [.f1 .no2, .f1 .tk1, .f1 .tk2, .f1 .tk3, .f1 .tk4, .f1 .tk5, .f1 .tk6, .f1 .tk7]
/-- Row 0x88: TK8 TK9 TKa TKb TKc TKd TKe TKf. -/
def opcodeRow88 : List OpcodeCell := [.f1 .tk8, .f1 .tk9, .f1 .tka, .f1 .tkb, .f1 .tkc, .f1 .tkd, .f1 .tke, .f1 .tkf]
/-- Row 0x90: NO1 TA1 TA2 TA3 TA4 TA5 TA6 TA7. -/
def opcodeRow90 : List OpcodeCell := [.f1 .no1, .f1 .ta1, .f1 .ta2, .f1 .ta3, .f1 .ta4, .f1 .ta5, .f1 .ta6, .f1 .ta7]
/-- Row 0x98: ST.B LV.B AV.B SV.B GT.B AN.B XR.B NR.B. -/
def opcodeRow98 : List OpcodeCell := [.f1 .stB, .f1 .lvB, .f1 .avB, .f1 .svB, .f1 .gtB, .f1 .anB, .f1 .xrB, .f1 .nrB]
/-- Row 0xa0: EX.S LV.S AV.S SV.S GT.S LD.S AD.S SD.S. -/
def opcodeRowa0 : List OpcodeCell := [.f1 .exS, .f1 .lvS, .f1 .avS, .f1 .svS, .f1 .gtS, .f1 .ldS, .f1 .adS, .f1 .sdS]
/-- Row 0xa8: EX.X ES.X SW.X RS.X GT.X LD.X AD.X SD.X. -/
def opcodeRowa8 : List OpcodeCell := [.f1 .exX, .f1 .esX, .f1 .swX, .f1 .rsX, .f1 .gtX, .f1 .ldX, .f1 .adX, .f1 .sdX]
/-- Row 0xb0: EX.Y ES.Y SW.Y RS.Y GT.Y LD.Y AD.Y SD.Y. -/
def opcodeRowb0 : List OpcodeCell := [.f1 .exY, .f1 .esY, .f1 .swY, .f1 .rsY, .f1 .gtY, .f1 .ldY, .f1 .adY, .f1 .sdY]
/-- Row 0xb8: EX.Z ES.Z SW.Z RS.Z GT.Z LD.Z AD.Z SD.Z. -/
def opcodeRowb8 : List OpcodeCell := [.f1 .exZ, .f1 .esZ, .f1 .swZ, .f1 .rsZ, .f1 .gtZ, .f1 .ldZ, .f1 .adZ, .f1 .sdZ]
/-- Row 0xc0: R.VZ R.VS R.UZ R.US R.AZ R.AS R.KZ R.KS. -/
def opcodeRowc0 : List OpcodeCell := [.f1 .rVZ, .f1 .rVS, .f1 .rUZ, .f1 .rUS, .f1 .rAZ, .f1 .rAS, .f1 .rKZ, .f1 .rKS]
/-- Row 0xc8: R.WY R.CN R.IX R.DX R.IY R.DY R.IZ R.DZ. -/
def opcodeRowc8 : List OpcodeCell := [.f1 .rWY, .f1 .rCN, .f1 .rIX, .f1 .rDX, .f1 .rIY, .f1 .rDY, .f1 .rIZ, .f1 .rDZ]
/-- Row 0xd0: GH.S GL.S GH.X GL.X GH.Y GL.Y GH.Z GL.Z. -/
def opcodeRowd0 : List OpcodeCell := [.f1 .ghS, .f1 .glS, .f1 .ghX, .f1 .glX, .f1 .ghY, .f1 .glY, .f1 .ghZ, .f1 .glZ]
/-- Row 0xd8: IC.S DC.S IXE DXE IYE DYE IZE DZE. -/
def opcodeRowd8 : List OpcodeCell := [.f1 .icS, .f1 .dcS, .f1 .ixe, .f1 .dxe, .f1 .iye, .f1 .dye, .f1 .ize, .f1 .dze]
/-- Row 0xe0: ZO.U SE.U ZO.V SE.V CP.U NE.U CP.V NE.V. -/
def opcodeRowe0 : List OpcodeCell := [.f1 .zoU, .f1 .seU, .f1 .zoV, .f1 .seV, .f1 .cpU, .f1 .neU, .f1 .cpV, .f1 .neV]
/-- Row 0xe8: PV.A TZ.A PV.B TZ.B RD.A RU.A RD.B RU.B. -/
def opcodeRowe8 : List OpcodeCell := [.f1 .pvA, .f1 .tzA, .f1 .pvB, .f1 .tzB, .f1 .rdA, .f1 .ruA, .f1 .rdB, .f1 .ruB]
/-- Row 0xf0: ZO.A NE.A ZO.B NE.B IV.A DV.A SL.K S.RP. -/
def opcodeRowf0 : List OpcodeCell := [.f1 .zoA, .f1 .neA, .f1 .zoB, .f1 .neB, .f1 .ivA, .f1 .dvA, .f1 .slK, .f1 .sRP]
/-- Row 0xf8: IC.K DC.K ZO.K NE.K IC.A DC.A GT.Q J... -/
def opcodeRowf8 : List OpcodeCell := [.f1 .icK, .f1 .dcK, .f1 .zoK, .f1 .neK, .f1 .icA, .f1 .dcA, .f1 .gtQ, .f1 .j]

/-- The 32 rows of the map. -/
def opcodeMap : List (List OpcodeCell) :=
  [opcodeRow00, opcodeRow08, opcodeRow10, opcodeRow18, opcodeRow20, opcodeRow28, opcodeRow30, opcodeRow38] ++
  [opcodeRow40, opcodeRow48, opcodeRow50, opcodeRow58, opcodeRow60, opcodeRow68, opcodeRow70, opcodeRow78] ++
  [opcodeRow80, opcodeRow88, opcodeRow90, opcodeRow98, opcodeRowa0, opcodeRowa8, opcodeRowb0, opcodeRowb8] ++
  [opcodeRowc0, opcodeRowc8, opcodeRowd0, opcodeRowd8, opcodeRowe0, opcodeRowe8, opcodeRowf0, opcodeRowf8]

/-- The cell of an opcode: row + column (R84). The map is complete, so neither default is ever used. -/
def opcodeCell (op : Byte) : OpcodeCell :=
  (opcodeMap.getD (op.toNat / 8) []).getD (op.toNat % 8) (.f1 .h)

/-- The instruction of an opcode and the byte after it; a one-byte instruction does not look at that byte. -/
def decodeOp (op nn : Byte) : Instr :=
  match opcodeCell op with
  | .f1 i => i
  | .f2 f => f nn

/-- Why bytes do not decode: they end too early, or an operand is given that the opcode does not take. -/
inductive DecodeError where
  /-- No byte at all. -/
  | noOpcode
  /-- A two-byte opcode without its `nn`. -/
  | missingOperand (op : Byte)
  /-- A one-byte opcode with an `nn`. -/
  | extraOperand (op : Byte)
deriving DecidableEq, Repr

/-- The first instruction of a byte string, opcode first (R53, R80), and the bytes after it. -/
def decode : List Byte → Except DecodeError (Instr × List Byte)
  | [] => .error .noOpcode
  | op :: rest =>
    match opcodeCell op with
    | .f1 i => .ok (i, rest)
    | .f2 f =>
      match rest with
      | [] => .error (.missingOperand op)
      | nn :: rest' => .ok (f nn, rest')

/-- The instruction of an opcode byte and an optional operand byte; exactly the ill-formed pairs are refused. -/
def decodeRaw (r : RawInstr) : Except DecodeError Instr :=
  match opcodeCell r.opcode with
  | .f1 i =>
    match r.operand with
    | none => .ok i
    | some _ => .error (.extraOperand r.opcode)
  | .f2 f =>
    match r.operand with
    | none => .error (.missingOperand r.opcode)
    | some nn => .ok (f nn)

/-- Byte `k` of a table instruction of `nbits` bits numbered from the first byte's bit 0; the bits above `nbits` are 0. -/
def tableByte (nbits w k : Nat) : Byte := BitVec.ofNat 8 (w % 2 ^ nbits / 256 ^ k)

/-- The instruction the decoder reads from a table instruction, its bytes in memory order, the first at P (R53). -/
def decodeTableWord (nbits w : Nat) : Option Instr :=
  match decode [tableByte nbits w 0, tableByte nbits w 1] with
  | .ok (i, _) => some i
  | .error _ => none

/-! The encoder, from the opcode column of the instruction files' tables. -/

/-- The opcode byte and the operand byte of an instruction. -/
def encodeRaw : Instr → RawInstr
  | .h => ⟨0x00, none⟩
  | .stS => ⟨0x01, none⟩
  | .ssX => ⟨0x02, none⟩
  | .stX => ⟨0x03, none⟩
  | .ssY => ⟨0x04, none⟩
  | .stY => ⟨0x05, none⟩
  | .ssZ => ⟨0x06, none⟩
  | .stZ => ⟨0x07, none⟩
  | .ix0 => ⟨0x08, none⟩
  | .ix1 => ⟨0x09, none⟩
  | .ix2 => ⟨0x0a, none⟩
  | .ix3 => ⟨0x0b, none⟩
  | .ix4 => ⟨0x0c, none⟩
  | .ix5 => ⟨0x0d, none⟩
  | .ix6 => ⟨0x0e, none⟩
  | .ix7 => ⟨0x0f, none⟩
  | .iy0 => ⟨0x10, none⟩
  | .iy1 => ⟨0x11, none⟩
  | .iy2 => ⟨0x12, none⟩
  | .iy3 => ⟨0x13, none⟩
  | .iy4 => ⟨0x14, none⟩
  | .iy5 => ⟨0x15, none⟩
  | .iy6 => ⟨0x16, none⟩
  | .iy7 => ⟨0x17, none⟩
  | .iz0 => ⟨0x18, none⟩
  | .iz1 => ⟨0x19, none⟩
  | .iz2 => ⟨0x1a, none⟩
  | .iz3 => ⟨0x1b, none⟩
  | .iz4 => ⟨0x1c, none⟩
  | .iz5 => ⟨0x1d, none⟩
  | .iz6 => ⟨0x1e, none⟩
  | .iz7 => ⟨0x1f, none⟩
  | .zoS => ⟨0x20, none⟩
  | .slS => ⟨0x21, none⟩
  | .zoX => ⟨0x22, none⟩
  | .slX => ⟨0x23, none⟩
  | .zoY => ⟨0x24, none⟩
  | .slY => ⟨0x25, none⟩
  | .zoZ => ⟨0x26, none⟩
  | .slZ => ⟨0x27, none⟩
  | .dx0 => ⟨0x28, none⟩
  | .dx1 => ⟨0x29, none⟩
  | .dx2 => ⟨0x2a, none⟩
  | .dx3 => ⟨0x2b, none⟩
  | .dx4 => ⟨0x2c, none⟩
  | .dx5 => ⟨0x2d, none⟩
  | .dx6 => ⟨0x2e, none⟩
  | .dx7 => ⟨0x2f, none⟩
  | .dy0 => ⟨0x30, none⟩
  | .dy1 => ⟨0x31, none⟩
  | .dy2 => ⟨0x32, none⟩
  | .dy3 => ⟨0x33, none⟩
  | .dy4 => ⟨0x34, none⟩
  | .dy5 => ⟨0x35, none⟩
  | .dy6 => ⟨0x36, none⟩
  | .dy7 => ⟨0x37, none⟩
  | .dz0 => ⟨0x38, none⟩
  | .dz1 => ⟨0x39, none⟩
  | .dz2 => ⟨0x3a, none⟩
  | .dz3 => ⟨0x3b, none⟩
  | .dz4 => ⟨0x3c, none⟩
  | .dz5 => ⟨0x3d, none⟩
  | .dz6 => ⟨0x3e, none⟩
  | .dz7 => ⟨0x3f, none⟩
  | .oVZ nn => ⟨0x40, some nn⟩
  | .oVS nn => ⟨0x41, some nn⟩
  | .bVZ nn => ⟨0x42, some nn⟩
  | .bVS nn => ⟨0x43, some nn⟩
  | .oUZ nn => ⟨0x44, some nn⟩
  | .oUS nn => ⟨0x45, some nn⟩
  | .bUZ nn => ⟨0x46, some nn⟩
  | .bUS nn => ⟨0x47, some nn⟩
  | .oAZ nn => ⟨0x48, some nn⟩
  | .oAS nn => ⟨0x49, some nn⟩
  | .bAZ nn => ⟨0x4a, some nn⟩
  | .bAS nn => ⟨0x4b, some nn⟩
  | .oKZ nn => ⟨0x4c, some nn⟩
  | .oKS nn => ⟨0x4d, some nn⟩
  | .bKZ nn => ⟨0x4e, some nn⟩
  | .bKS nn => ⟨0x4f, some nn⟩
  | .oWY nn => ⟨0x50, some nn⟩
  | .oRP nn => ⟨0x51, some nn⟩
  | .bWY nn => ⟨0x52, some nn⟩
  | .bCN nn => ⟨0x53, some nn⟩
  | .gtr nn => ⟨0x54, some nn⟩
  | .adr nn => ⟨0x55, some nn⟩
  | .gta nn => ⟨0x56, some nn⟩
  | .nol nn => ⟨0x57, some nn⟩
  | .ikl nn => ⟨0x58, some nn⟩
  | .dkl nn => ⟨0x59, some nn⟩
  | .ixl nn => ⟨0x5a, some nn⟩
  | .dxl nn => ⟨0x5b, some nn⟩
  | .iyl nn => ⟨0x5c, some nn⟩
  | .dyl nn => ⟨0x5d, some nn⟩
  | .izl nn => ⟨0x5e, some nn⟩
  | .dzl nn => ⟨0x5f, some nn⟩
  | .ad nn => ⟨0x60, some nn⟩
  | .lv nn => ⟨0x61, some nn⟩
  | .av nn => ⟨0x62, some nn⟩
  | .sv nn => ⟨0x63, some nn⟩
  | .gt nn => ⟨0x64, some nn⟩
  | .an nn => ⟨0x65, some nn⟩
  | .xr nn => ⟨0x66, some nn⟩
  | .nr nn => ⟨0x67, some nn⟩
  | .stmx => ⟨0x68, none⟩
  | .lvmx => ⟨0x69, none⟩
  | .avmx => ⟨0x6a, none⟩
  | .svmx => ⟨0x6b, none⟩
  | .gtmx => ⟨0x6c, none⟩
  | .anmx => ⟨0x6d, none⟩
  | .xrmx => ⟨0x6e, none⟩
  | .nrmx => ⟨0x6f, none⟩
  | .stmy => ⟨0x70, none⟩
  | .lvmy => ⟨0x71, none⟩
  | .avmy => ⟨0x72, none⟩
  | .svmy => ⟨0x73, none⟩
  | .gtmy => ⟨0x74, none⟩
  | .anmy => ⟨0x75, none⟩
  | .xrmy => ⟨0x76, none⟩
  | .nrmy => ⟨0x77, none⟩
  | .stmz => ⟨0x78, none⟩
  | .lvmz => ⟨0x79, none⟩
  | .avmz => ⟨0x7a, none⟩
  | .svmz => ⟨0x7b, none⟩
  | .gtmz => ⟨0x7c, none⟩
  | .anmz => ⟨0x7d, none⟩
  | .xrmz => ⟨0x7e, none⟩
  | .nrmz => ⟨0x7f, none⟩
  | .no2 => ⟨0x80, none⟩
  | .tk1 => ⟨0x81, none⟩
  | .tk2 => ⟨0x82, none⟩
  | .tk3 => ⟨0x83, none⟩
  | .tk4 => ⟨0x84, none⟩
  | .tk5 => ⟨0x85, none⟩
  | .tk6 => ⟨0x86, none⟩
  | .tk7 => ⟨0x87, none⟩
  | .tk8 => ⟨0x88, none⟩
  | .tk9 => ⟨0x89, none⟩
  | .tka => ⟨0x8a, none⟩
  | .tkb => ⟨0x8b, none⟩
  | .tkc => ⟨0x8c, none⟩
  | .tkd => ⟨0x8d, none⟩
  | .tke => ⟨0x8e, none⟩
  | .tkf => ⟨0x8f, none⟩
  | .no1 => ⟨0x90, none⟩
  | .ta1 => ⟨0x91, none⟩
  | .ta2 => ⟨0x92, none⟩
  | .ta3 => ⟨0x93, none⟩
  | .ta4 => ⟨0x94, none⟩
  | .ta5 => ⟨0x95, none⟩
  | .ta6 => ⟨0x96, none⟩
  | .ta7 => ⟨0x97, none⟩
  | .stB => ⟨0x98, none⟩
  | .lvB => ⟨0x99, none⟩
  | .avB => ⟨0x9a, none⟩
  | .svB => ⟨0x9b, none⟩
  | .gtB => ⟨0x9c, none⟩
  | .anB => ⟨0x9d, none⟩
  | .xrB => ⟨0x9e, none⟩
  | .nrB => ⟨0x9f, none⟩
  | .exS => ⟨0xa0, none⟩
  | .lvS => ⟨0xa1, none⟩
  | .avS => ⟨0xa2, none⟩
  | .svS => ⟨0xa3, none⟩
  | .gtS => ⟨0xa4, none⟩
  | .ldS => ⟨0xa5, none⟩
  | .adS => ⟨0xa6, none⟩
  | .sdS => ⟨0xa7, none⟩
  | .exX => ⟨0xa8, none⟩
  | .esX => ⟨0xa9, none⟩
  | .swX => ⟨0xaa, none⟩
  | .rsX => ⟨0xab, none⟩
  | .gtX => ⟨0xac, none⟩
  | .ldX => ⟨0xad, none⟩
  | .adX => ⟨0xae, none⟩
  | .sdX => ⟨0xaf, none⟩
  | .exY => ⟨0xb0, none⟩
  | .esY => ⟨0xb1, none⟩
  | .swY => ⟨0xb2, none⟩
  | .rsY => ⟨0xb3, none⟩
  | .gtY => ⟨0xb4, none⟩
  | .ldY => ⟨0xb5, none⟩
  | .adY => ⟨0xb6, none⟩
  | .sdY => ⟨0xb7, none⟩
  | .exZ => ⟨0xb8, none⟩
  | .esZ => ⟨0xb9, none⟩
  | .swZ => ⟨0xba, none⟩
  | .rsZ => ⟨0xbb, none⟩
  | .gtZ => ⟨0xbc, none⟩
  | .ldZ => ⟨0xbd, none⟩
  | .adZ => ⟨0xbe, none⟩
  | .sdZ => ⟨0xbf, none⟩
  | .rVZ => ⟨0xc0, none⟩
  | .rVS => ⟨0xc1, none⟩
  | .rUZ => ⟨0xc2, none⟩
  | .rUS => ⟨0xc3, none⟩
  | .rAZ => ⟨0xc4, none⟩
  | .rAS => ⟨0xc5, none⟩
  | .rKZ => ⟨0xc6, none⟩
  | .rKS => ⟨0xc7, none⟩
  | .rWY => ⟨0xc8, none⟩
  | .rCN => ⟨0xc9, none⟩
  | .rIX => ⟨0xca, none⟩
  | .rDX => ⟨0xcb, none⟩
  | .rIY => ⟨0xcc, none⟩
  | .rDY => ⟨0xcd, none⟩
  | .rIZ => ⟨0xce, none⟩
  | .rDZ => ⟨0xcf, none⟩
  | .ghS => ⟨0xd0, none⟩
  | .glS => ⟨0xd1, none⟩
  | .ghX => ⟨0xd2, none⟩
  | .glX => ⟨0xd3, none⟩
  | .ghY => ⟨0xd4, none⟩
  | .glY => ⟨0xd5, none⟩
  | .ghZ => ⟨0xd6, none⟩
  | .glZ => ⟨0xd7, none⟩
  | .icS => ⟨0xd8, none⟩
  | .dcS => ⟨0xd9, none⟩
  | .ixe => ⟨0xda, none⟩
  | .dxe => ⟨0xdb, none⟩
  | .iye => ⟨0xdc, none⟩
  | .dye => ⟨0xdd, none⟩
  | .ize => ⟨0xde, none⟩
  | .dze => ⟨0xdf, none⟩
  | .zoU => ⟨0xe0, none⟩
  | .seU => ⟨0xe1, none⟩
  | .zoV => ⟨0xe2, none⟩
  | .seV => ⟨0xe3, none⟩
  | .cpU => ⟨0xe4, none⟩
  | .neU => ⟨0xe5, none⟩
  | .cpV => ⟨0xe6, none⟩
  | .neV => ⟨0xe7, none⟩
  | .pvA => ⟨0xe8, none⟩
  | .tzA => ⟨0xe9, none⟩
  | .pvB => ⟨0xea, none⟩
  | .tzB => ⟨0xeb, none⟩
  | .rdA => ⟨0xec, none⟩
  | .ruA => ⟨0xed, none⟩
  | .rdB => ⟨0xee, none⟩
  | .ruB => ⟨0xef, none⟩
  | .zoA => ⟨0xf0, none⟩
  | .neA => ⟨0xf1, none⟩
  | .zoB => ⟨0xf2, none⟩
  | .neB => ⟨0xf3, none⟩
  | .ivA => ⟨0xf4, none⟩
  | .dvA => ⟨0xf5, none⟩
  | .slK => ⟨0xf6, none⟩
  | .sRP => ⟨0xf7, none⟩
  | .icK => ⟨0xf8, none⟩
  | .dcK => ⟨0xf9, none⟩
  | .zoK => ⟨0xfa, none⟩
  | .neK => ⟨0xfb, none⟩
  | .icA => ⟨0xfc, none⟩
  | .dcA => ⟨0xfd, none⟩
  | .gtQ => ⟨0xfe, none⟩
  | .j => ⟨0xff, none⟩

/-- The opcode byte of an instruction (R84). -/
def opcode (i : Instr) : Byte := (encodeRaw i).opcode

/-- The bytes of an instruction, the opcode first (R53). -/
def encode (i : Instr) : List Byte := (encodeRaw i).opcode :: (encodeRaw i).operand.toList

/-! The assembler text (R89, D20): the mnemonic, and `nn` as two hexadecimal digits. -/

/-- The mnemonic, as the opcode map spells it (R84, R89). -/
def mnemonic : Instr → String
  | .h => "H.."
  | .stS => "ST.S"
  | .ssX => "SS.X"
  | .stX => "ST.X"
  | .ssY => "SS.Y"
  | .stY => "ST.Y"
  | .ssZ => "SS.Z"
  | .stZ => "ST.Z"
  | .ix0 => "IX0"
  | .ix1 => "IX1"
  | .ix2 => "IX2"
  | .ix3 => "IX3"
  | .ix4 => "IX4"
  | .ix5 => "IX5"
  | .ix6 => "IX6"
  | .ix7 => "IX7"
  | .iy0 => "IY0"
  | .iy1 => "IY1"
  | .iy2 => "IY2"
  | .iy3 => "IY3"
  | .iy4 => "IY4"
  | .iy5 => "IY5"
  | .iy6 => "IY6"
  | .iy7 => "IY7"
  | .iz0 => "IZ0"
  | .iz1 => "IZ1"
  | .iz2 => "IZ2"
  | .iz3 => "IZ3"
  | .iz4 => "IZ4"
  | .iz5 => "IZ5"
  | .iz6 => "IZ6"
  | .iz7 => "IZ7"
  | .zoS => "ZO.S"
  | .slS => "SL.S"
  | .zoX => "ZO.X"
  | .slX => "SL.X"
  | .zoY => "ZO.Y"
  | .slY => "SL.Y"
  | .zoZ => "ZO.Z"
  | .slZ => "SL.Z"
  | .dx0 => "DX0"
  | .dx1 => "DX1"
  | .dx2 => "DX2"
  | .dx3 => "DX3"
  | .dx4 => "DX4"
  | .dx5 => "DX5"
  | .dx6 => "DX6"
  | .dx7 => "DX7"
  | .dy0 => "DY0"
  | .dy1 => "DY1"
  | .dy2 => "DY2"
  | .dy3 => "DY3"
  | .dy4 => "DY4"
  | .dy5 => "DY5"
  | .dy6 => "DY6"
  | .dy7 => "DY7"
  | .dz0 => "DZ0"
  | .dz1 => "DZ1"
  | .dz2 => "DZ2"
  | .dz3 => "DZ3"
  | .dz4 => "DZ4"
  | .dz5 => "DZ5"
  | .dz6 => "DZ6"
  | .dz7 => "DZ7"
  | .oVZ _ => "O.VZ"
  | .oVS _ => "O.VS"
  | .bVZ _ => "B.VZ"
  | .bVS _ => "B.VS"
  | .oUZ _ => "O.UZ"
  | .oUS _ => "O.US"
  | .bUZ _ => "B.UZ"
  | .bUS _ => "B.US"
  | .oAZ _ => "O.AZ"
  | .oAS _ => "O.AS"
  | .bAZ _ => "B.AZ"
  | .bAS _ => "B.AS"
  | .oKZ _ => "O.KZ"
  | .oKS _ => "O.KS"
  | .bKZ _ => "B.KZ"
  | .bKS _ => "B.KS"
  | .oWY _ => "O.WY"
  | .oRP _ => "O.RP"
  | .bWY _ => "B.WY"
  | .bCN _ => "B.CN"
  | .gtr _ => "GTR"
  | .adr _ => "ADR"
  | .gta _ => "GTA"
  | .nol _ => "NOL"
  | .ikl _ => "IKL"
  | .dkl _ => "DKL"
  | .ixl _ => "IXL"
  | .dxl _ => "DXL"
  | .iyl _ => "IYL"
  | .dyl _ => "DYL"
  | .izl _ => "IZL"
  | .dzl _ => "DZL"
  | .ad _ => "AD."
  | .lv _ => "LV."
  | .av _ => "AV."
  | .sv _ => "SV."
  | .gt _ => "GT."
  | .an _ => "AN."
  | .xr _ => "XR."
  | .nr _ => "NR."
  | .stmx => "STMX"
  | .lvmx => "LVMX"
  | .avmx => "AVMX"
  | .svmx => "SVMX"
  | .gtmx => "GTMX"
  | .anmx => "ANMX"
  | .xrmx => "XRMX"
  | .nrmx => "NRMX"
  | .stmy => "STMY"
  | .lvmy => "LVMY"
  | .avmy => "AVMY"
  | .svmy => "SVMY"
  | .gtmy => "GTMY"
  | .anmy => "ANMY"
  | .xrmy => "XRMY"
  | .nrmy => "NRMY"
  | .stmz => "STMZ"
  | .lvmz => "LVMZ"
  | .avmz => "AVMZ"
  | .svmz => "SVMZ"
  | .gtmz => "GTMZ"
  | .anmz => "ANMZ"
  | .xrmz => "XRMZ"
  | .nrmz => "NRMZ"
  | .no2 => "NO2"
  | .tk1 => "TK1"
  | .tk2 => "TK2"
  | .tk3 => "TK3"
  | .tk4 => "TK4"
  | .tk5 => "TK5"
  | .tk6 => "TK6"
  | .tk7 => "TK7"
  | .tk8 => "TK8"
  | .tk9 => "TK9"
  | .tka => "TKa"
  | .tkb => "TKb"
  | .tkc => "TKc"
  | .tkd => "TKd"
  | .tke => "TKe"
  | .tkf => "TKf"
  | .no1 => "NO1"
  | .ta1 => "TA1"
  | .ta2 => "TA2"
  | .ta3 => "TA3"
  | .ta4 => "TA4"
  | .ta5 => "TA5"
  | .ta6 => "TA6"
  | .ta7 => "TA7"
  | .stB => "ST.B"
  | .lvB => "LV.B"
  | .avB => "AV.B"
  | .svB => "SV.B"
  | .gtB => "GT.B"
  | .anB => "AN.B"
  | .xrB => "XR.B"
  | .nrB => "NR.B"
  | .exS => "EX.S"
  | .lvS => "LV.S"
  | .avS => "AV.S"
  | .svS => "SV.S"
  | .gtS => "GT.S"
  | .ldS => "LD.S"
  | .adS => "AD.S"
  | .sdS => "SD.S"
  | .exX => "EX.X"
  | .esX => "ES.X"
  | .swX => "SW.X"
  | .rsX => "RS.X"
  | .gtX => "GT.X"
  | .ldX => "LD.X"
  | .adX => "AD.X"
  | .sdX => "SD.X"
  | .exY => "EX.Y"
  | .esY => "ES.Y"
  | .swY => "SW.Y"
  | .rsY => "RS.Y"
  | .gtY => "GT.Y"
  | .ldY => "LD.Y"
  | .adY => "AD.Y"
  | .sdY => "SD.Y"
  | .exZ => "EX.Z"
  | .esZ => "ES.Z"
  | .swZ => "SW.Z"
  | .rsZ => "RS.Z"
  | .gtZ => "GT.Z"
  | .ldZ => "LD.Z"
  | .adZ => "AD.Z"
  | .sdZ => "SD.Z"
  | .rVZ => "R.VZ"
  | .rVS => "R.VS"
  | .rUZ => "R.UZ"
  | .rUS => "R.US"
  | .rAZ => "R.AZ"
  | .rAS => "R.AS"
  | .rKZ => "R.KZ"
  | .rKS => "R.KS"
  | .rWY => "R.WY"
  | .rCN => "R.CN"
  | .rIX => "R.IX"
  | .rDX => "R.DX"
  | .rIY => "R.IY"
  | .rDY => "R.DY"
  | .rIZ => "R.IZ"
  | .rDZ => "R.DZ"
  | .ghS => "GH.S"
  | .glS => "GL.S"
  | .ghX => "GH.X"
  | .glX => "GL.X"
  | .ghY => "GH.Y"
  | .glY => "GL.Y"
  | .ghZ => "GH.Z"
  | .glZ => "GL.Z"
  | .icS => "IC.S"
  | .dcS => "DC.S"
  | .ixe => "IXE"
  | .dxe => "DXE"
  | .iye => "IYE"
  | .dye => "DYE"
  | .ize => "IZE"
  | .dze => "DZE"
  | .zoU => "ZO.U"
  | .seU => "SE.U"
  | .zoV => "ZO.V"
  | .seV => "SE.V"
  | .cpU => "CP.U"
  | .neU => "NE.U"
  | .cpV => "CP.V"
  | .neV => "NE.V"
  | .pvA => "PV.A"
  | .tzA => "TZ.A"
  | .pvB => "PV.B"
  | .tzB => "TZ.B"
  | .rdA => "RD.A"
  | .ruA => "RU.A"
  | .rdB => "RD.B"
  | .ruB => "RU.B"
  | .zoA => "ZO.A"
  | .neA => "NE.A"
  | .zoB => "ZO.B"
  | .neB => "NE.B"
  | .ivA => "IV.A"
  | .dvA => "DV.A"
  | .slK => "SL.K"
  | .sRP => "S.RP"
  | .icK => "IC.K"
  | .dcK => "DC.K"
  | .zoK => "ZO.K"
  | .neK => "NE.K"
  | .icA => "IC.A"
  | .dcA => "DC.A"
  | .gtQ => "GT.Q"
  | .j => "J.."

/-- A hexadecimal digit. -/
def hexDigit (n : Nat) : String := ("0123456789abcdef".toList.getD n '0').toString

/-- A byte as two hexadecimal digits. -/
def hexByte (b : Byte) : String := hexDigit (b.toNat / 16) ++ hexDigit (b.toNat % 16)

/-- One line of assembler text (R89). -/
def render (i : Instr) : String :=
  match (encodeRaw i).operand with
  | none => mnemonic i
  | some nn => mnemonic i ++ " " ++ hexByte nn

end Sys2Proof
end

