-- ==== Sys2Proof/Machine/Flags.lean ====
section
/-! DEFINITION. Every flag computation of the bo8 (R9 of spec/00_scope.md, R25 of spec/10_state.md) and the bit rearrangements
of the rotates, as functions of the operands alone: a result and, where the rule writes it, the new V. -/

namespace Sys2Proof.Machine

/-- `a + b + c` (R9): computed in N+1 bits; the low N bits and, as V, bit N, the carry. -/
def addCarry {w : Nat} (a b : BitVec w) (c : Bool) : BitVec w × Bool :=
  let t : BitVec (w + 1) := a.setWidth (w + 1) + b.setWidth (w + 1) + (BitVec.ofBool c).setWidth (w + 1)
  (t.setWidth w, t.getLsbD w)

/-- `a - b - c` (R9, D5): computed modulo 2^(N+1); the low N bits and, as V, bit N, the borrow. -/
def subBorrow {w : Nat} (a b : BitVec w) (c : Bool) : BitVec w × Bool :=
  let d : BitVec (w + 1) := a.setWidth (w + 1) - b.setWidth (w + 1) - (BitVec.ofBool c).setWidth (w + 1)
  (d.setWidth w, d.getLsbD w)

/-- Rotate one place down through V (R236): the byte becomes V ++ v[7:1], V the old bit 0. -/
def rotateDown (v : Byte) (c : Bool) : Byte × Bool :=
  (BitVec.ofBool c ++ v.extractLsb' 1 7, v.getLsbD 0)

/-- Rotate one place up through V (R238): the byte becomes v[6:0] ++ V, V the old bit 7. -/
def rotateUp (v : Byte) (c : Bool) : Byte × Bool :=
  (v.extractLsb' 0 7 ++ BitVec.ofBool c, v.getLsbD 7)

/-- `rotl_N(v, s)` (R7): rotate `s` places towards the more significant end. -/
def rotl {w : Nat} (v : BitVec w) (s : Nat) : BitVec w := v.rotateLeft s

/-- Eight copies of V (R232). -/
def copiesOf (c : Bool) : Byte := if c then 0xff else 0x00

/-- V after a test for zero (R234): set by a byte that is not zero, else as it was. -/
def testNonzero (v : Byte) (c : Bool) : Bool := if v ≠ 0 then true else c

/-- The byte with bit 7 replaced, bits 6:0 kept (R214 to R217). -/
def withBit7 (u : Bool) (v : Byte) : Byte := BitVec.ofBool u ++ v.extractLsb' 0 7

/-- `zext_16` of a byte (R7). -/
def zext16 (v : Byte) : Word := v.setWidth 16

/-- Bits 7:0 of a word. -/
def lowByte (v : Word) : Byte := v.extractLsb' 0 8

/-- Bits 15:8 of a word. -/
def highByte (v : Word) : Byte := v.extractLsb' 8 8

end Sys2Proof.Machine
end

