-- ==== Sys2Proof/Machine/State.lean ====
section
/-! DEFINITION. The state of the bo8 and of the platform behind its bus (spec/10_state.md, spec/20_memory.md), the reasons
a step can stop, and the state after reset. All plain data. -/

namespace Sys2Proof.Machine

/-- The half cycles of a full cycle (R67). -/
inductive HalfCycle where
  | tA | tB
deriving DecidableEq, Repr

/-- The address registers, the document's `%` (R10, R32). -/
inductive PtrReg where
  | X | Y | Z
deriving DecidableEq, Repr

/-- The 16-bit registers an instruction's formula can name; K is the alias A ++ B (R20, R23). -/
inductive Reg16 where
  | K | S | X | Y | Z | Q | R
deriving DecidableEq, Repr

/-- What the platform is shown beside memory accesses (R55): a page switch with its tB type and the tA type of the same
full cycle, an I/O input with the word on the address bus and the byte delivered, a K output. -/
inductive PlatformEvent where
  | pageSwitch (t prev : BusType)
  | ioRead (k : Word) (b : Byte)
  | kOut (k : Word)
deriving DecidableEq, Repr

/-- An invocation of a platform operation by the CPU (R55); `unstated` stands for the cycles of an instruction whose bus
activity the spec does not state, before or after its fetch (N9, U10; log entry 7). -/
inductive PlatformAction where
  | read (t : BusType) (addr : Word)
  | write (t : BusType) (addr : Word) (v : Byte)
  | pageSwitch (t prev : BusType)
  | ioRead (k : Word)
  | kOut (k : Word)
  | unstated (fetched : Bool) (n : Nat)
deriving DecidableEq, Repr

/-- Memory: address and byte pairs in canonical form (`Memory.wf` in Ops). -/
abbrev Memory := List Host.Cell

/-- The state Pi of the platform (R55). Which platform it is stands in `external`: the default of R56, or any other, whose
operations are the open parameter PLATFORM of R5 (D14, U4, U11; `Config.platformRead` and its like; log entry 7). -/
structure Platform where
  /-- None: the default platform. Else another platform, in this state of its own. -/
  external : Option Nat
  /-- The default platform's array M of 2^16 bytes. -/
  mem : Memory
  /-- Input bytes the environment has ready, the next first (D15; log entry 5). -/
  inputs : List Byte
  /-- The model's own: how many I/O inputs have happened, the index of the free input byte (log entry 5). -/
  ioCount : Nat
  /-- The signals and I/O cycles the platform has been shown, oldest first, whichever it is. -/
  events : List PlatformEvent
  /-- The final output word a KA cycle has shown, whichever platform it is (R56, R58). -/
  output : Option Word
deriving DecidableEq, Repr

/-- One data access of an instruction: its bus type, its address, the byte moved (R52). -/
structure DataAccess where
  type : BusType
  addr : Word
  byte : Byte
deriving DecidableEq, Repr

/-- What the last step showed on the bus (R52), without their order (D13, N9; log entry 9). -/
structure BusActivity where
  /-- The address of the FE cycle. -/
  fetch : Word
  /-- The address of the RP cycle of a two-byte instruction. -/
  operand : Option Word
  /-- The data access of a memory instruction. -/
  data : Option DataAccess
  /-- How many full cycles beside these, and beside those of `H..`, it took: what they show the spec does not state (N9). -/
  unstated : Nat
deriving DecidableEq, Repr

/-- RES, with what the platform drives on the address and the data bus (R450). -/
structure ResetInput where
  start : Word
  a0 : Byte
deriving DecidableEq, Repr

/-- Values for the registers that a reset leaves unspecified (R38). -/
structure Unspecified where
  B : Byte
  Q : Word
  S : Word
  X : Word
  Y : Word
  Z : Word
  V : Bool
deriving DecidableEq, Repr

/-- The machine. Registers bear the document's names (R20). -/
structure State where
  /-- Program counter: the address of the opcode of the instruction being executed (R26). -/
  P : Word
  /-- Return address (R29). -/
  Q : Word
  /-- Loop start address (R30). -/
  R : Word
  /-- Loop counter (R31). -/
  S : Word
  /-- Address register X (R32). -/
  X : Word
  /-- Address register Y (R32). -/
  Y : Word
  /-- Address register Z (R32). -/
  Z : Word
  /-- Accumulator, the upper half of K (R21, R23). -/
  A : Byte
  /-- Extension, the lower half of K (R22, R23). -/
  B : Byte
  /-- Carry (R25). -/
  V : Bool
  /-- The prefetched opcode of the instruction about to execute (R34). -/
  IR : Byte
  /-- The halted state (R35). -/
  halted : Bool
  /-- Memory and I/O behind the bus (R55, R56). -/
  platform : Platform
  /-- RES as the next step samples it (R402; log entry 6). -/
  res : Option ResetInput
  /-- The model's own: how many resets steps have taken, the index of the free values of a reset (log entry 6). -/
  resetCount : Nat
  /-- The model's own cycle counter, as R459 allows (log entry 8). -/
  cycles : Nat
  /-- The model's own record of the last step's bus accesses (log entry 9). -/
  bus : BusActivity
  /-- The model's own record of the last step's full cycles in their order, each as its tA and its tB type (R67), where the
  spec states their sequence (R458); `none` where it does not (N9, log entry 9). -/
  fullCycles : Option (List (BusType × BusType))
deriving DecidableEq, Repr

/-- Why a step can stop. -/
inductive Fault where
  /-- Raised by `step` alone, on a halted state while RES is inactive: the halted CPU executes nothing and has no
  successor except by reset (R407, U8: stuck). Safe: it is the normal end of a run, and nothing is claimed after it. -/
  | halted
deriving DecidableEq, Repr

/-- Why a step can be refused. -/
inductive Refusal where
  /-- An instruction without a meaning yet, by its mnemonic. Raised by no arm of `exec`: every instruction has its
  meaning. Safe. -/
  | notModelled (mnemonic : String)
deriving DecidableEq, Repr

/-- The outcome of an instruction. -/
abbrev Result := Host.Outcome State Fault Refusal

/-- The machine right after the power-on reset (R38): P = R = START, A = A0, `halted` cleared, IR the byte at START.
Every other register is unspecified there and is 0 here (DESIGN CHOICE, log entry 2, unsafe). -/
def State.reset : State where
  P := Config.start
  Q := 0
  R := Config.start
  S := 0
  X := 0
  Y := 0
  Z := 0
  A := Config.a0
  B := 0
  V := false
  IR := Config.unwrittenByte
  halted := false
  platform := { external := none, mem := [], inputs := [], ioCount := 0, events := [], output := none }
  res := none
  resetCount := 0
  cycles := 0
  bus := { fetch := Config.start, operand := none, data := none, unstated := 0 }
  fullCycles := some [(.FE, .BN)]

end Sys2Proof.Machine
end

