-- ==== Sys2Proof/Machine/Ops.lean ====
section
/-! DEFINITION. The named operations over registers, memory and the platform: register access with the aliases K and U
(spec/10_state.md), the platform interface of R55 with the default platform of R56 (spec/20_memory.md), the end of an
instruction with the prefetch of the following opcode (R34), and the fetch of an instruction's bytes. -/

namespace Sys2Proof.Machine

/-! Bus-cycle types (R51). -/

/-- The number a type shows on N0..N3 (R51). -/
def BusType.code : BusType → BitVec 4
  | .BN => 0x0 | .AR => 0x1 | .KA => 0x2 | .HA => 0x3
  | .BP => 0x4 | .BX => 0x5 | .BY => 0x6 | .BZ => 0x7
  | .FE => 0x8 | .WX => 0x9 | .WY => 0xa | .WZ => 0xb
  | .RP => 0xc | .RX => 0xd | .RY => 0xe | .RZ => 0xf

/-- The half cycle a type is shown in (R51). -/
def BusType.half : BusType → HalfCycle
  | .BN => .tB | .BP => .tB | .BX => .tB | .BY => .tB | .BZ => .tB
  | .AR => .tA | .KA => .tA | .HA => .tA | .FE => .tA | .WX => .tA | .WY => .tA | .WZ => .tA
  | .RP => .tA | .RX => .tA | .RY => .tA | .RZ => .tA

/-- The type of a data read through an address register (R52). -/
def PtrReg.readType : PtrReg → BusType
  | .X => .RX | .Y => .RY | .Z => .RZ

/-- The type of a data write through an address register (R52). -/
def PtrReg.writeType : PtrReg → BusType
  | .X => .WX | .Y => .WY | .Z => .WZ

/-- The page-switch type of an address register (R57). -/
def PtrReg.pageType : PtrReg → BusType
  | .X => .BX | .Y => .BY | .Z => .BZ

/-! Registers. -/

/-- K = A ++ B, A the high byte (R23). -/
def State.K (s : State) : Word := s.A ++ s.B

/-- U = A[7] (R24). -/
def State.U (s : State) : Bool := s.A.getLsbD 7

def State.setA (s : State) (v : Byte) : State := { s with A := v }
def State.setB (s : State) (v : Byte) : State := { s with B := v }
def State.setV (s : State) (c : Bool) : State := { s with V := c }

/-- `K <- v`: A gets bits 15:8, B bits 7:0 (R23). -/
def State.setK (s : State) (v : Word) : State := { s with A := highByte v, B := lowByte v }

/-- `U <- u`: bit 7 of A and nothing else (R24). -/
def State.setU (s : State) (u : Bool) : State := { s with A := withBit7 u s.A }

/-- Read a 16-bit register by name. -/
def State.get16 (s : State) : Reg16 → Word
  | .K => s.K | .S => s.S | .X => s.X | .Y => s.Y | .Z => s.Z | .Q => s.Q | .R => s.R

/-- Write a 16-bit register by name. -/
def State.set16 (s : State) (r : Reg16) (v : Word) : State :=
  match r with
  | .K => s.setK v
  | .S => { s with S := v }
  | .X => { s with X := v }
  | .Y => { s with Y := v }
  | .Z => { s with Z := v }
  | .Q => { s with Q := v }
  | .R => { s with R := v }

/-- An address register as a 16-bit register. -/
def PtrReg.reg : PtrReg → Reg16
  | .X => .X | .Y => .Y | .Z => .Z

/-! Memory: a list of pairs in one canonical form. -/

/-- The byte at an address; an address not listed reads as `Config.unwrittenByte` (log entry 3). -/
def Memory.get : Memory → Nat → Byte
  | [], _ => Config.unwrittenByte
  | (a, v) :: m, b => if a = b then v else Memory.get m b

/-- Write the byte at an address, keeping the canonical form. -/
def Memory.set : Memory → Nat → Byte → Memory
  | [], b, w => if w = Config.unwrittenByte then [] else [(b, w)]
  | (a, v) :: m, b, w =>
    if b < a then (if w = Config.unwrittenByte then (a, v) :: m else (b, w) :: (a, v) :: m)
    else if b = a then (if w = Config.unwrittenByte then m else (b, w) :: m)
    else (a, v) :: Memory.set m b w

/-- The canonical form from address `lo` on: addresses rising, below 2^16, no byte an unlisted address reads as. -/
def Memory.wfFrom : Nat → Memory → Bool
  | _, [] => true
  | lo, (a, v) :: m =>
    decide (lo ≤ a) && decide (a < 65536) && decide (v ≠ Config.unwrittenByte) && Memory.wfFrom (a + 1) m

/-- The canonical form of a memory. -/
def Memory.wf (m : Memory) : Bool := Memory.wfFrom 0 m

/-! The platform interface (R55): each operation on the default platform (R56), and on another the parameter's. -/

/-- `read(Pi, t, addr)`: the byte and Pi'. The default platform gives the byte at the address for every type, unchanged. -/
def Platform.read (pi : Platform) (t : BusType) (addr : Word) : Byte × Platform :=
  match pi.external with
  | none => (pi.mem.get addr.toNat, pi)
  | some e => ((Config.platformRead t addr e).1, { pi with external := some (Config.platformRead t addr e).2 })

/-- `write(Pi, t, addr, v)`. The default platform sets the byte for every type. -/
def Platform.write (pi : Platform) (t : BusType) (addr : Word) (v : Byte) : Platform :=
  match pi.external with
  | none => { pi with mem := pi.mem.set addr.toNat v }
  | some e => { pi with external := some (Config.platformWrite t addr v e) }

/-- `pageswitch(Pi, r, prev)`. The default platform has one page, so nothing but the record of the signal changes. -/
def Platform.pageSwitch (pi : Platform) (t prev : BusType) : Platform :=
  { pi with external := pi.external.map (Config.platformPageSwitch t prev), events := pi.events ++ [.pageSwitch t prev] }

/-- `ioread(Pi, k)`: the byte and Pi'. On the default platform the byte is the environment's next, or a free one (D15, log
entry 5). -/
def Platform.ioRead (pi : Platform) (k : Word) : Byte × Platform :=
  match pi.external with
  | none =>
    let b := pi.inputs.headD (Config.ioInput pi.ioCount k)
    (b, { pi with inputs := pi.inputs.tail, ioCount := pi.ioCount + 1, events := pi.events ++ [.ioRead k b] })
  | some e =>
    let r := Config.platformIoRead k e
    (r.1, { pi with external := some r.2, events := pi.events ++ [.ioRead k r.1] })

/-- `kout(Pi, k)`: k is the machine's final output word. -/
def Platform.kOut (pi : Platform) (k : Word) : Platform :=
  { pi with external := pi.external.map (Config.platformKOut k), output := some k, events := pi.events ++ [.kOut k] }

/-- `n` cycles whose bus activity the spec does not state; the default platform has no reads with side effects (R56), so
they do nothing to it. -/
def Platform.unstated (pi : Platform) (fetched : Bool) (n : Nat) : Platform :=
  { pi with external := pi.external.map (fun e => if n = 0 then e else Config.platformUnstated fetched n e) }

/-- One platform action. -/
def Platform.act (pi : Platform) : PlatformAction → Platform
  | .read t addr => (pi.read t addr).2
  | .write t addr v => pi.write t addr v
  | .pageSwitch t prev => pi.pageSwitch t prev
  | .ioRead k => (pi.ioRead k).2
  | .kOut k => pi.kOut k
  | .unstated fetched n => pi.unstated fetched n

/-- Several platform actions in their order. -/
def Platform.run (pi : Platform) : List PlatformAction → Platform
  | [] => pi
  | a :: as => (pi.act a).run as

/-! The accesses of one instruction, in their order. -/

/-- The outcome that FETCH_ORDER selects (R62, D13, log entry 4); where the two orders agree there is nothing to select. -/
def inFetchOrder {α : Type} [DecidableEq α] (fetchFirst dataFirst : α) : α :=
  if fetchFirst = dataFirst then dataFirst
  else match Config.fetchOrder with
    | .fetchFirst => fetchFirst
    | .dataFirst => dataFirst

/-- An instruction without data access: its operand, if it has one, is read in its first cycle (R62), then the opcode at
`target` (R34); `n` unstated cycles lie before or after that fetch (N9). The opcode and the platform. -/
def Platform.fetchAfter (pi : Platform) (operand : Option Word) (n : Nat) (target : Word) : Byte × Platform :=
  let read := match operand with
    | none => pi
    | some a => (pi.read .RP a).2
  let fetched := (read.unstated false n).read .FE target
  (fetched.1, fetched.2.unstated true n)

/-- A data read and the fetch of the opcode at `target`, in FETCH_ORDER: the data byte, the opcode, the platform. -/
def Platform.readAndFetch (pi : Platform) (t : BusType) (addr target : Word) : Byte × Byte × Platform :=
  inFetchOrder
    (let f := pi.read .FE target
     let d := f.2.read t addr
     (d.1, f.1, d.2))
    (let d := pi.read t addr
     let f := d.2.read .FE target
     (d.1, f.1, f.2))

/-- A data write and the fetch of the opcode at `target`, in FETCH_ORDER: the opcode and the platform. -/
def Platform.writeAndFetch (pi : Platform) (t : BusType) (addr : Word) (v : Byte) (target : Word) : Byte × Platform :=
  inFetchOrder
    (let f := pi.read .FE target
     (f.1, f.2.write t addr v))
    ((pi.write t addr v).read .FE target)

/-- Replace the platform's state. -/
def State.setPlatform (s : State) (pi : Platform) : State := { s with platform := pi }

/-- The byte `MemRead(t, addr, 1)` (R7) delivers to a CPU in this state. -/
def State.memRead (s : State) (t : BusType) (addr : Word) : Byte := (s.platform.read t addr).1

/-- `PageSwitch(r)` (R7), by its type, in a full cycle whose tA type is `prev`. -/
def State.pageSwitch (s : State) (t prev : BusType) : State := s.setPlatform (s.platform.pageSwitch t prev)

/-- `KOut(k)` (R7). -/
def State.kOut (s : State) (k : Word) : State := s.setPlatform (s.platform.kOut k)

/-- `A <- IORead(k)` (R7, R335). -/
def State.inputA (s : State) (k : Word) : State :=
  (s.setPlatform (s.platform.ioRead k).2).setA (s.platform.ioRead k).1

/-! The end of an instruction. -/

/-- The sequence of full cycles of an instruction of `n` cycles that signals no page switch: one cycle is (FE/BN); of
more the spec does not state the order (R458, N9). -/
def ordinaryCycles (n : Nat) : Option (List (BusType × BusType)) := if n = 1 then some [(.FE, .BN)] else none

/-- An instruction ends: the next instruction stands at `target`, its opcode `op` has been fetched there (R34), `n` full
cycles have passed (R457), and the instruction's own accesses and full cycles are recorded (R52, R458). -/
def State.retireWith (s : State) (op : Byte) (target : Word) (n : Nat) (bus : BusActivity) : State :=
  { s with P := target, IR := op, cycles := s.cycles + n, bus := bus, fullCycles := ordinaryCycles n }

/-- The end of an instruction without data access: of its `n` cycles one fetches the opcode at `target`, one reads the
operand if there is one, and of the others the spec does not state the activity (R52, R457, N9). -/
def State.retire (s : State) (target : Word) (n : Nat) (operand : Option Word) : State :=
  let k := n - 1 - operand.toList.length
  let r := s.platform.fetchAfter operand k target
  (s.setPlatform r.2).retireWith r.1 target n { fetch := target, operand := operand, data := none, unstated := k }

/-- The instruction's full cycles are these (R458). -/
def State.showCycles (s : State) (l : List (BusType × BusType)) : State := { s with fullCycles := some l }

/-- The CPU halts: it stays in BN until a reset (R35, R336). -/
def State.halt (s : State) : State := { s with halted := true }

/-- The end of a one-byte instruction without data access, `P <- P + 1` (R27). -/
def State.advance1 (s : State) (n : Nat) : State := s.retire (s.P + 1) n none

/-- The end of a two-byte instruction, `P <- P + 2` (R27), its RP cycle at P + 1 (R52). -/
def State.advance2 (s : State) (n : Nat) : State := s.retire (s.P + 2) n (some (s.P + 1))

/-- The data byte an instruction reads through an address register while the following opcode is fetched (R52). -/
def State.dataByte (s : State) (r : PtrReg) : Byte :=
  (s.platform.readAndFetch r.readType (s.get16 r.reg) (s.P + 1)).1

/-- The end of an instruction that read memory through an address register (R52, R457). -/
def State.advanceRead (s : State) (r : PtrReg) : State :=
  let x := s.platform.readAndFetch r.readType (s.get16 r.reg) (s.P + 1)
  (s.setPlatform x.2.2).retireWith x.2.1 (s.P + 1) 2
    { fetch := s.P + 1, operand := none, data := some { type := r.readType, addr := s.get16 r.reg, byte := x.1 }
      unstated := 0 }

/-- The end of an instruction that stored `v` through an address register (R52, R62, R457). -/
def State.advanceWrite (s : State) (r : PtrReg) (v : Byte) : State :=
  let x := s.platform.writeAndFetch r.writeType (s.get16 r.reg) v (s.P + 1)
  (s.setPlatform x.2).retireWith x.1 (s.P + 1) 2
    { fetch := s.P + 1, operand := none, data := some { type := r.writeType, addr := s.get16 r.reg, byte := v }
      unstated := 0 }

/-- An instruction of no other access than the fetch of the following opcode has made it; what it does to the platform
then is its own (R330, R333). -/
def State.fetchNext (s : State) : State := s.setPlatform (s.platform.read .FE (s.P + 1)).2

/-- The end of such an instruction: the opcode fetched is the one `s` saw at P + 1, `l` are its full cycles (R458). -/
def State.retireSignals (t s : State) (l : List (BusType × BusType)) : State :=
  (t.retireWith (s.memRead .FE (s.P + 1)) (s.P + 1) l.length
    { fetch := s.P + 1, operand := none, data := none, unstated := 0 }).showCycles l

/-! Fetching an instruction's bytes. -/

/-- The instruction about to execute: its opcode is IR (R34), its operand, if it has one, the byte at P + 1 read with type
RP in its own first cycle (R52, R62). What that read does to the platform is part of the instruction (`fetchAfter`). -/
def State.nextInstr (s : State) : Instr := decodeOp s.IR (s.memRead .RP (s.P + 1))

/-- The state with a table instruction's bytes at P and P + 1 of the default platform and its opcode already fetched (R34),
running. -/
def State.placeWord (s : State) (nbits w : Nat) : State :=
  let op := tableByte nbits w 0
  let nn := tableByte nbits w 1
  { s with
    IR := op
    halted := false
    res := none
    platform := { s.platform with external := none, mem := (s.platform.mem.set s.P.toNat op).set (s.P + 1).toNat nn } }

end Sys2Proof.Machine
end

