-- ==== Sys2Proof/Machine/Operands.lean ====
section
/-! DEFINITION. The operand forms of the bo8 and the shapes its instructions share: the three forms of an 8-bit operand
(spec/40, spec/41), writes of 8-bit and 16-bit registers (spec/42 to spec/46), the nine conditions and the branch shapes
(R290, R291 of spec/47_control.md). Every right-hand side reads the state before the instruction (R8). -/

namespace Sys2Proof.Machine

/-- The second operand of an 8-bit instruction: B, the immediate nn, or the memory byte at an address register. -/
inductive Source8 where
  | B
  | imm (nn : Byte)
  | mem (r : PtrReg)
deriving DecidableEq, Repr

/-- The operand's value; `(%)` is read with the type of its register (R52), in the same instruction as the following
opcode (`advanceRead`). -/
def Source8.value (src : Source8) (s : State) : Byte :=
  match src with
  | .B => s.B
  | .imm nn => nn
  | .mem r => s.dataByte r

/-- The end of an 8-bit instruction with this operand: length, cycles and accesses (R52, R457). -/
def Source8.retire (src : Source8) (s : State) : State :=
  match src with
  | .B => s.advance1 1
  | .imm _ => s.advance2 2
  | .mem r => s.advanceRead r

/-- An 8-bit operation on A that leaves V alone: `A <- f(A, operand)`. -/
def alu8 (f : Byte → Byte → Byte) (src : Source8) (s : State) : Result :=
  .next (src.retire (s.setA (f s.A (src.value s))))

/-- An 8-bit operation on A that reads and writes V: `A, V <- f(A, operand, V)`. -/
def alu8V (f : Byte → Byte → Bool → Byte × Bool) (src : Source8) (s : State) : Result :=
  let t := f s.A (src.value s) s.V
  .next (src.retire ((s.setA t.1).setV t.2))

/-- `STM%`: A into the byte at the address register, the following opcode fetched in the same instruction (R62, R141). -/
def storeA (r : PtrReg) (s : State) : Result := .next (s.advanceWrite r s.A)

/-- A one-byte, one-cycle instruction that writes A. -/
def writeA (v : Byte) (s : State) : Result := .next ((s.setA v).advance1 1)

/-- A one-byte, one-cycle instruction that writes B. -/
def writeB (v : Byte) (s : State) : Result := .next ((s.setB v).advance1 1)

/-- A one-byte, one-cycle instruction that writes V. -/
def writeV (c : Bool) (s : State) : Result := .next ((s.setV c).advance1 1)

/-- A one-byte, one-cycle instruction that writes U, bit 7 of A. -/
def writeU (u : Bool) (s : State) : Result := .next ((s.setU u).advance1 1)

/-- A one-byte, one-cycle instruction that writes A and V. -/
def writeAV (t : Byte × Bool) (s : State) : Result := .next (((s.setA t.1).setV t.2).advance1 1)

/-- A one-byte, one-cycle instruction that writes B and V. -/
def writeBV (t : Byte × Bool) (s : State) : Result := .next (((s.setB t.1).setV t.2).advance1 1)

/-- A one-byte, one-cycle instruction that writes K and V. -/
def writeKV (t : Word × Bool) (s : State) : Result := .next (((s.setK t.1).setV t.2).advance1 1)

/-- A one-byte, one-cycle instruction that writes a 16-bit register. -/
def write16 (r : Reg16) (v : Word) (s : State) : Result := .next ((s.set16 r v).advance1 1)

/-- A two-byte, two-cycle instruction that writes a 16-bit register. -/
def write16imm (r : Reg16) (v : Word) (s : State) : Result := .next ((s.set16 r v).advance2 2)

/-- The exchange of two 16-bit registers, both from the old values (R197, R201). -/
def exchange16 (r q : Reg16) (s : State) : Result :=
  .next (((s.set16 r (s.get16 q)).set16 q (s.get16 r)).advance1 1)

/-- A write of an address register together with the exchange of A and B (R256 to R261). -/
def write16swapAB (r : Reg16) (v : Word) (s : State) : Result :=
  .next ((((s.set16 r v).setA s.B).setB s.A).advance1 1)

/-- A one-byte instruction that changes nothing but P, in `n` cycles (R283, R284). -/
def idle1 (n : Nat) (s : State) : Result := .next (s.advance1 n)

/-- A two-byte instruction that changes nothing but P, in `n` cycles (R285). -/
def idle2 (n : Nat) (s : State) : Result := .next (s.advance2 n)

/-! Conditions and branches. -/

/-- The nine conditions (R290). -/
inductive Cond where
  | WY | VZ | VS | UZ | US | AZ | AS | KZ | KS
deriving DecidableEq, Repr

/-- The condition on the registers at the start of the instruction (R290). -/
def State.holds (s : State) : Cond → Bool
  | .WY => true
  | .VZ => !s.V
  | .VS => s.V
  | .UZ => !s.U
  | .US => s.U
  | .AZ => s.A == 0
  | .AS => s.A != 0
  | .KZ => s.K == 0
  | .KS => s.K != 0

/-- The V side effect: a branch that tests V clears it, taken or not (R291 (c), D9). -/
def State.afterCond (s : State) : Cond → State
  | .VZ => s.setV false
  | .VS => s.setV false
  | .WY => s
  | .UZ => s
  | .US => s
  | .AZ => s
  | .AS => s
  | .KZ => s
  | .KS => s

/-- The target of a forward branch, of GTR and of ADR: P + nn + 3 (R291, R281). -/
def State.forward (s : State) (nn : Byte) : Word := s.P + zext16 nn + 3

/-- The target of a backward branch: P - nn - 1 (R291). -/
def State.backward (s : State) (nn : Byte) : Word := s.P - zext16 nn - 1

/-- A two-byte branch on a condition: 3 cycles taken, 2 not (R291). -/
def branch (c : Cond) (target : Word) (s : State) : Result :=
  if s.holds c then .next ((s.afterCond c).retire target 3 (some (s.P + 1)))
  else .next ((s.afterCond c).advance2 2)

/-- A jump to R on a condition: one byte, one cycle (R291). -/
def jumpR (c : Cond) (s : State) : Result :=
  if s.holds c then .next ((s.afterCond c).retire s.R 1 none)
  else .next ((s.afterCond c).advance1 1)

/-- A counting jump to R: while S is not zero, S counts down, an address register may step, and P gets R (R321 to R327). -/
def countJumpR (step : State → State) (s : State) : Result :=
  if s.S ≠ 0 then .next ((step (s.set16 .S (s.S - 1))).retire s.R 1 none)
  else .next (s.advance1 1)

/-- The counting backward branch (R311). -/
def countBranch (nn : Byte) (s : State) : Result :=
  if s.S ≠ 0 then .next ((s.set16 .S (s.S - 1)).retire (s.backward nn) 3 (some (s.P + 1)))
  else .next (s.advance2 2)

/-- `SW.%`: the following opcode is fetched, then the page switch is signalled in the same full cycle (R330). -/
def switchPage (r : PtrReg) (s : State) : Result :=
  .next ((s.fetchNext.pageSwitch r.pageType .FE).retireSignals s [(.FE, r.pageType)])

end Sys2Proof.Machine
end

