-- ==== Sys2Proof/Machine/AddrNopLink.lean ====
section
/-! DEFINITION. The meanings of spec/46_addr_nop_link.md: address constants, no-operations, the Q and R helpers. One definition per instruction, in the order of the file's
rules; each cites its rule. No instruction can fault (R400). -/

namespace Sys2Proof.Machine

/-- `GTA nn` (R280): loads K with the zero-extended immediate: A becomes 0x00 and B becomes nn. -/
def execGta (nn : Byte) (s : State) : Result := write16imm .K (zext16 nn) s

/-- `GTR nn` (R281): loads K with an address relative to this instruction: the address of its opcode plus nn plus 3. -/
def execGtr (nn : Byte) (s : State) : Result := write16imm .K (s.forward nn) s

/-- `ADR nn` (R282): adds to K the same relative address that `GTR` would load. -/
def execAdr (nn : Byte) (s : State) : Result := write16imm .K (s.K + s.P + zext16 nn + 3) s

/-- `NO1` (R283): does nothing for one cycle. -/
def execNo1 (s : State) : Result := idle1 1 s

/-- `NO2` (R284): does nothing for two cycles. -/
def execNo2 (s : State) : Result := idle1 2 s

/-- `NOL nn` (R285): with nn > 0: a delay of 2 + nn cycles that changes nothing; with nn = 0: copies the loop start
address R into K. -/
def execNol (nn : Byte) (s : State) : Result := if nn = 0 then write16imm .K s.R s else idle2 (2 + nn.toNat) s

/-- `GT.Q` (R286): copies the return address Q into K. -/
def execGtQ (s : State) : Result := write16 .K s.Q s

/-- `S.RP` (R287): sets the loop start address R to the address of the instruction that follows. -/
def execSRP (s : State) : Result := write16 .R (s.P + 1) s

end Sys2Proof.Machine
end

