-- ==== Sys2Proof/Machine/Alu8.lean ====
section
/-! DEFINITION. The meanings of spec/40_alu8.md: 8-bit arithmetic and logic on A with B and with an immediate. One definition per instruction, in the order of the file's
rules; each cites its rule. No instruction can fault (R400). -/

namespace Sys2Proof.Machine

/-- `AN.B` (R100): bitwise AND of A with B, result in A. -/
def execAnB (s : State) : Result := alu8 (· &&& ·) .B s

/-- `NR.B` (R101): bitwise NOR of A with B (the complement of their OR), result in A. -/
def execNrB (s : State) : Result := alu8 (fun a m => ~~~(a ||| m)) .B s

/-- `XR.B` (R102): bitwise exclusive OR of A with B, result in A. -/
def execXrB (s : State) : Result := alu8 (· ^^^ ·) .B s

/-- `AV.B` (R103): adds B and the carry V to A; V receives the carry out of bit 7. -/
def execAvB (s : State) : Result := alu8V addCarry .B s

/-- `SV.B` (R104): subtracts B and the borrow V from A; V receives the borrow. -/
def execSvB (s : State) : Result := alu8V subBorrow .B s

/-- `LV.B` (R105): reverse subtraction: A becomes B minus A minus the borrow V; V receives the borrow. -/
def execLvB (s : State) : Result := alu8V (fun a m c => subBorrow m a c) .B s

/-- `GT.B` (R106): copies B into A. -/
def execGtB (s : State) : Result := alu8 (fun _ m => m) .B s

/-- `ST.B` (R107): copies A into B. -/
def execStB (s : State) : Result := writeB s.A s

/-- `AN. nn` (R108): bitwise AND of A with the immediate byte nn, result in A. -/
def execAn (nn : Byte) (s : State) : Result := alu8 (· &&& ·) (.imm nn) s

/-- `NR. nn` (R109): bitwise NOR of A with the immediate byte nn (the complement of their OR), result in A. -/
def execNr (nn : Byte) (s : State) : Result := alu8 (fun a m => ~~~(a ||| m)) (.imm nn) s

/-- `XR. nn` (R110): bitwise exclusive OR of A with the immediate byte nn, result in A. -/
def execXr (nn : Byte) (s : State) : Result := alu8 (· ^^^ ·) (.imm nn) s

/-- `AV. nn` (R111): adds the immediate byte nn and the carry V to A; V receives the carry out of bit 7. -/
def execAv (nn : Byte) (s : State) : Result := alu8V addCarry (.imm nn) s

/-- `SV. nn` (R112): subtracts the immediate byte nn and the borrow V from A; V receives the borrow. -/
def execSv (nn : Byte) (s : State) : Result := alu8V subBorrow (.imm nn) s

/-- `LV. nn` (R113): reverse subtraction: A becomes the immediate byte nn minus A minus the borrow V; V receives the
borrow. -/
def execLv (nn : Byte) (s : State) : Result := alu8V (fun a m c => subBorrow m a c) (.imm nn) s

/-- `GT. nn` (R114): copies the immediate byte nn into A. -/
def execGt (nn : Byte) (s : State) : Result := alu8 (fun _ m => m) (.imm nn) s

/-- `AD. nn` (R115): adds the immediate byte nn to A without carry in and without touching V. -/
def execAd (nn : Byte) (s : State) : Result := alu8 (· + ·) (.imm nn) s

end Sys2Proof.Machine
end

