-- ==== Sys2Proof/Machine/Alu8Memory.lean ====
section
/-! DEFINITION. The meanings of spec/41_alu8_memory.md: 8-bit operations of A with memory: loads, stores and memory operands. One definition per instruction, in the order of the file's
rules; each cites its rule. No instruction can fault (R400). -/

namespace Sys2Proof.Machine

/-- `ANMX` (R120): bitwise AND of A with the memory byte at the address in X, result in A. -/
def execAnmx (s : State) : Result := alu8 (· &&& ·) (.mem .X) s

/-- `ANMY` (R121): bitwise AND of A with the memory byte at the address in Y, result in A. -/
def execAnmy (s : State) : Result := alu8 (· &&& ·) (.mem .Y) s

/-- `ANMZ` (R122): bitwise AND of A with the memory byte at the address in Z, result in A. -/
def execAnmz (s : State) : Result := alu8 (· &&& ·) (.mem .Z) s

/-- `NRMX` (R123): bitwise NOR of A with the memory byte at the address in X (the complement of their OR), result in
A. -/
def execNrmx (s : State) : Result := alu8 (fun a m => ~~~(a ||| m)) (.mem .X) s

/-- `NRMY` (R124): bitwise NOR of A with the memory byte at the address in Y (the complement of their OR), result in
A. -/
def execNrmy (s : State) : Result := alu8 (fun a m => ~~~(a ||| m)) (.mem .Y) s

/-- `NRMZ` (R125): bitwise NOR of A with the memory byte at the address in Z (the complement of their OR), result in
A. -/
def execNrmz (s : State) : Result := alu8 (fun a m => ~~~(a ||| m)) (.mem .Z) s

/-- `XRMX` (R126): bitwise exclusive OR of A with the memory byte at the address in X, result in A. -/
def execXrmx (s : State) : Result := alu8 (· ^^^ ·) (.mem .X) s

/-- `XRMY` (R127): bitwise exclusive OR of A with the memory byte at the address in Y, result in A. -/
def execXrmy (s : State) : Result := alu8 (· ^^^ ·) (.mem .Y) s

/-- `XRMZ` (R128): bitwise exclusive OR of A with the memory byte at the address in Z, result in A. -/
def execXrmz (s : State) : Result := alu8 (· ^^^ ·) (.mem .Z) s

/-- `AVMX` (R129): adds the memory byte at the address in X and the carry V to A; V receives the carry out of bit 7. -/
def execAvmx (s : State) : Result := alu8V addCarry (.mem .X) s

/-- `AVMY` (R130): adds the memory byte at the address in Y and the carry V to A; V receives the carry out of bit 7. -/
def execAvmy (s : State) : Result := alu8V addCarry (.mem .Y) s

/-- `AVMZ` (R131): adds the memory byte at the address in Z and the carry V to A; V receives the carry out of bit 7. -/
def execAvmz (s : State) : Result := alu8V addCarry (.mem .Z) s

/-- `SVMX` (R132): subtracts the memory byte at the address in X and the borrow V from A; V receives the borrow. -/
def execSvmx (s : State) : Result := alu8V subBorrow (.mem .X) s

/-- `SVMY` (R133): subtracts the memory byte at the address in Y and the borrow V from A; V receives the borrow. -/
def execSvmy (s : State) : Result := alu8V subBorrow (.mem .Y) s

/-- `SVMZ` (R134): subtracts the memory byte at the address in Z and the borrow V from A; V receives the borrow. -/
def execSvmz (s : State) : Result := alu8V subBorrow (.mem .Z) s

/-- `LVMX` (R135): reverse subtraction: A becomes the memory byte at the address in X minus A minus the borrow V; V
receives the borrow. -/
def execLvmx (s : State) : Result := alu8V (fun a m c => subBorrow m a c) (.mem .X) s

/-- `LVMY` (R136): reverse subtraction: A becomes the memory byte at the address in Y minus A minus the borrow V; V
receives the borrow. -/
def execLvmy (s : State) : Result := alu8V (fun a m c => subBorrow m a c) (.mem .Y) s

/-- `LVMZ` (R137): reverse subtraction: A becomes the memory byte at the address in Z minus A minus the borrow V; V
receives the borrow. -/
def execLvmz (s : State) : Result := alu8V (fun a m c => subBorrow m a c) (.mem .Z) s

/-- `GTMX` (R138): copies the memory byte at the address in X into A. -/
def execGtmx (s : State) : Result := alu8 (fun _ m => m) (.mem .X) s

/-- `GTMY` (R139): copies the memory byte at the address in Y into A. -/
def execGtmy (s : State) : Result := alu8 (fun _ m => m) (.mem .Y) s

/-- `GTMZ` (R140): copies the memory byte at the address in Z into A. -/
def execGtmz (s : State) : Result := alu8 (fun _ m => m) (.mem .Z) s

/-- `STMX` (R141): stores A into the memory byte at the address in X. -/
def execStmx (s : State) : Result := storeA .X s

/-- `STMY` (R142): stores A into the memory byte at the address in Y. -/
def execStmy (s : State) : Result := storeA .Y s

/-- `STMZ` (R143): stores A into the memory byte at the address in Z. -/
def execStmz (s : State) : Result := storeA .Z s

end Sys2Proof.Machine
end

