-- ==== Sys2Proof/Machine/Arith16.lean ====
section
/-! DEFINITION. The meanings of spec/42_arith16.md: 16-bit arithmetic on K with S and with the address registers. One definition per instruction, in the order of the file's
rules; each cites its rule. No instruction can fault (R400). -/

namespace Sys2Proof.Machine

/-- `AV.S` (R150): 16-bit addition with carry: adds S and V to K; V receives the carry out of bit 15. -/
def execAvS (s : State) : Result := writeKV (addCarry s.K s.S s.V) s

/-- `SV.S` (R151): 16-bit subtraction with borrow: subtracts S and V from K; V receives the borrow. -/
def execSvS (s : State) : Result := writeKV (subBorrow s.K s.S s.V) s

/-- `LV.S` (R152): 16-bit reverse subtraction with borrow: K becomes S minus K minus V; V receives the borrow. -/
def execLvS (s : State) : Result := writeKV (subBorrow s.S s.K s.V) s

/-- `AD.S` (R153): 16-bit addition of S to K, no carry in, V untouched. -/
def execAdS (s : State) : Result := write16 .K (s.K + s.S) s

/-- `SD.S` (R154): 16-bit subtraction of S from K, no borrow in, V untouched. -/
def execSdS (s : State) : Result := write16 .K (s.K - s.S) s

/-- `LD.S` (R155): 16-bit reverse subtraction: K becomes S minus K; V untouched. -/
def execLdS (s : State) : Result := write16 .K (s.S - s.K) s

/-- `AD.X` (R156): 16-bit addition of X to K, no carry in, V untouched. -/
def execAdX (s : State) : Result := write16 .K (s.K + s.X) s

/-- `AD.Y` (R157): 16-bit addition of Y to K, no carry in, V untouched. -/
def execAdY (s : State) : Result := write16 .K (s.K + s.Y) s

/-- `AD.Z` (R158): 16-bit addition of Z to K, no carry in, V untouched. -/
def execAdZ (s : State) : Result := write16 .K (s.K + s.Z) s

/-- `SD.X` (R159): 16-bit subtraction of X from K, no borrow in, V untouched. -/
def execSdX (s : State) : Result := write16 .K (s.K - s.X) s

/-- `SD.Y` (R160): 16-bit subtraction of Y from K, no borrow in, V untouched. -/
def execSdY (s : State) : Result := write16 .K (s.K - s.Y) s

/-- `SD.Z` (R161): 16-bit subtraction of Z from K, no borrow in, V untouched. -/
def execSdZ (s : State) : Result := write16 .K (s.K - s.Z) s

/-- `LD.X` (R162): 16-bit reverse subtraction: K becomes X minus K; V untouched. -/
def execLdX (s : State) : Result := write16 .K (s.X - s.K) s

/-- `LD.Y` (R163): 16-bit reverse subtraction: K becomes Y minus K; V untouched. -/
def execLdY (s : State) : Result := write16 .K (s.Y - s.K) s

/-- `LD.Z` (R164): 16-bit reverse subtraction: K becomes Z minus K; V untouched. -/
def execLdZ (s : State) : Result := write16 .K (s.Z - s.K) s

end Sys2Proof.Machine
end

