-- ==== Sys2Proof/Machine/Control.lean ====
section
/-! DEFINITION. The meanings of spec/47_control.md: control transfer. One definition per instruction, in the order of the file's
rules; each cites its rule. No instruction can fault (R400). -/

namespace Sys2Proof.Machine

/-- `O.RP nn` (R292): sets the loop start address R to the address of the instruction that follows and jumps forward,
unconditionally, to P + nn + 3. -/
def execORP (nn : Byte) (s : State) : Result := .next ((s.set16 .R (s.P + 2)).retire (s.forward nn) 3 (some (s.P + 1)))

/-- `O.WY nn` (R293): jumps forward unconditionally to P + nn + 3. -/
def execOWY (nn : Byte) (s : State) : Result := branch .WY (s.forward nn) s

/-- `O.VZ nn` (R294): jumps forward to P + nn + 3 if V = 0; otherwise continues with the next instruction. -/
def execOVZ (nn : Byte) (s : State) : Result := branch .VZ (s.forward nn) s

/-- `O.VS nn` (R295): jumps forward to P + nn + 3 if V = 1; otherwise continues with the next instruction. -/
def execOVS (nn : Byte) (s : State) : Result := branch .VS (s.forward nn) s

/-- `O.UZ nn` (R296): jumps forward to P + nn + 3 if A[7] = 0; otherwise continues with the next instruction. -/
def execOUZ (nn : Byte) (s : State) : Result := branch .UZ (s.forward nn) s

/-- `O.US nn` (R297): jumps forward to P + nn + 3 if A[7] = 1; otherwise continues with the next instruction. -/
def execOUS (nn : Byte) (s : State) : Result := branch .US (s.forward nn) s

/-- `O.AZ nn` (R298): jumps forward to P + nn + 3 if A = 0x00; otherwise continues with the next instruction. -/
def execOAZ (nn : Byte) (s : State) : Result := branch .AZ (s.forward nn) s

/-- `O.AS nn` (R299): jumps forward to P + nn + 3 if A != 0x00; otherwise continues with the next instruction. -/
def execOAS (nn : Byte) (s : State) : Result := branch .AS (s.forward nn) s

/-- `O.KZ nn` (R300): jumps forward to P + nn + 3 if K = 0x0000 (A = 0x00 and B = 0x00); otherwise continues with the
next instruction. -/
def execOKZ (nn : Byte) (s : State) : Result := branch .KZ (s.forward nn) s

/-- `O.KS nn` (R301): jumps forward to P + nn + 3 if K != 0x0000; otherwise continues with the next instruction. -/
def execOKS (nn : Byte) (s : State) : Result := branch .KS (s.forward nn) s

/-- `B.WY nn` (R302): jumps backward unconditionally to P - nn - 1. -/
def execBWY (nn : Byte) (s : State) : Result := branch .WY (s.backward nn) s

/-- `B.VZ nn` (R303): jumps backward to P - nn - 1 if V = 0; otherwise continues with the next instruction. -/
def execBVZ (nn : Byte) (s : State) : Result := branch .VZ (s.backward nn) s

/-- `B.VS nn` (R304): jumps backward to P - nn - 1 if V = 1; otherwise continues with the next instruction. -/
def execBVS (nn : Byte) (s : State) : Result := branch .VS (s.backward nn) s

/-- `B.UZ nn` (R305): jumps backward to P - nn - 1 if A[7] = 0; otherwise continues with the next instruction. -/
def execBUZ (nn : Byte) (s : State) : Result := branch .UZ (s.backward nn) s

/-- `B.US nn` (R306): jumps backward to P - nn - 1 if A[7] = 1; otherwise continues with the next instruction. -/
def execBUS (nn : Byte) (s : State) : Result := branch .US (s.backward nn) s

/-- `B.AZ nn` (R307): jumps backward to P - nn - 1 if A = 0x00; otherwise continues with the next instruction. -/
def execBAZ (nn : Byte) (s : State) : Result := branch .AZ (s.backward nn) s

/-- `B.AS nn` (R308): jumps backward to P - nn - 1 if A != 0x00; otherwise continues with the next instruction. -/
def execBAS (nn : Byte) (s : State) : Result := branch .AS (s.backward nn) s

/-- `B.KZ nn` (R309): jumps backward to P - nn - 1 if K = 0x0000 (A = 0x00 and B = 0x00); otherwise continues with the
next instruction. -/
def execBKZ (nn : Byte) (s : State) : Result := branch .KZ (s.backward nn) s

/-- `B.KS nn` (R310): jumps backward to P - nn - 1 if K != 0x0000; otherwise continues with the next instruction. -/
def execBKS (nn : Byte) (s : State) : Result := branch .KS (s.backward nn) s

/-- `B.CN nn` (R311): loop instruction: if S is not zero, decrements S and jumps backward to P - nn - 1; if S is zero,
falls through and leaves S at zero. -/
def execBCN (nn : Byte) (s : State) : Result := countBranch nn s

/-- `R.WY` (R312): jumps unconditionally to the loop start address R. -/
def execRWY (s : State) : Result := jumpR .WY s

/-- `R.VZ` (R313): jumps to the loop start address R if V = 0; otherwise continues with the next instruction. -/
def execRVZ (s : State) : Result := jumpR .VZ s

/-- `R.VS` (R314): jumps to the loop start address R if V = 1; otherwise continues with the next instruction. -/
def execRVS (s : State) : Result := jumpR .VS s

/-- `R.UZ` (R315): jumps to the loop start address R if A[7] = 0; otherwise continues with the next instruction. -/
def execRUZ (s : State) : Result := jumpR .UZ s

/-- `R.US` (R316): jumps to the loop start address R if A[7] = 1; otherwise continues with the next instruction. -/
def execRUS (s : State) : Result := jumpR .US s

/-- `R.AZ` (R317): jumps to the loop start address R if A = 0x00; otherwise continues with the next instruction. -/
def execRAZ (s : State) : Result := jumpR .AZ s

/-- `R.AS` (R318): jumps to the loop start address R if A != 0x00; otherwise continues with the next instruction. -/
def execRAS (s : State) : Result := jumpR .AS s

/-- `R.KZ` (R319): jumps to the loop start address R if K = 0x0000 (A = 0x00 and B = 0x00); otherwise continues with
the next instruction. -/
def execRKZ (s : State) : Result := jumpR .KZ s

/-- `R.KS` (R320): jumps to the loop start address R if K != 0x0000; otherwise continues with the next instruction. -/
def execRKS (s : State) : Result := jumpR .KS s

/-- `R.CN` (R321): loop instruction: if S is not zero, decrements S and jumps to R; if S is zero, falls through. -/
def execRCN (s : State) : Result := countJumpR id s

/-- `R.IX` (R322): loop instruction with pointer step: if S is not zero, decrements S, increments X by 1 and jumps to
R; if S is zero, falls through and changes nothing. -/
def execRIX (s : State) : Result := countJumpR (fun t => t.set16 .X (s.X + 1)) s

/-- `R.IY` (R323): loop instruction with pointer step: if S is not zero, decrements S, increments Y by 1 and jumps to
R; if S is zero, falls through and changes nothing. -/
def execRIY (s : State) : Result := countJumpR (fun t => t.set16 .Y (s.Y + 1)) s

/-- `R.IZ` (R324): loop instruction with pointer step: if S is not zero, decrements S, increments Z by 1 and jumps to
R; if S is zero, falls through and changes nothing. -/
def execRIZ (s : State) : Result := countJumpR (fun t => t.set16 .Z (s.Z + 1)) s

/-- `R.DX` (R325): loop instruction with pointer step: if S is not zero, decrements S, decrements X by 1 and jumps to
R; if S is zero, falls through and changes nothing. -/
def execRDX (s : State) : Result := countJumpR (fun t => t.set16 .X (s.X - 1)) s

/-- `R.DY` (R326): loop instruction with pointer step: if S is not zero, decrements S, decrements Y by 1 and jumps to
R; if S is zero, falls through and changes nothing. -/
def execRDY (s : State) : Result := countJumpR (fun t => t.set16 .Y (s.Y - 1)) s

/-- `R.DZ` (R327): loop instruction with pointer step: if S is not zero, decrements S, decrements Z by 1 and jumps to
R; if S is zero, falls through and changes nothing. -/
def execRDZ (s : State) : Result := countJumpR (fun t => t.set16 .Z (s.Z - 1)) s

/-- `J..` (R328): jump and link: jumps to the address in K, sets the loop start R to the same address, and leaves the
address of the byte after the `J..` in both Q and K. -/
def execJ (s : State) : Result := .next ((((s.set16 .R s.K).set16 .Q (s.P + 1)).set16 .K (s.P + 1)).retire s.K 1 none)

end Sys2Proof.Machine
end

