-- ==== Sys2Proof/Machine/FlagsUnary.lean ====
section
/-! DEFINITION. The meanings of spec/44_flags_unary.md: the flag instructions and the one-register operations. One definition per instruction, in the order of the file's
rules; each cites its rule. No instruction can fault (R400). -/

namespace Sys2Proof.Machine

/-- `ZO.V` (R210): clears the carry flag. -/
def execZoV (s : State) : Result := writeV false s

/-- `SE.V` (R211): sets the carry flag. -/
def execSeV (s : State) : Result := writeV true s

/-- `NE.V` (R212): inverts the carry flag. -/
def execNeV (s : State) : Result := writeV (!s.V) s

/-- `CP.V` (R213): replaces V by the exclusive OR of V and U (bit 7 of A). -/
def execCpV (s : State) : Result := writeV (s.V ^^ s.U) s

/-- `ZO.U` (R214): clears U, i.e. bit 7 of A. -/
def execZoU (s : State) : Result := writeU false s

/-- `SE.U` (R215): sets U, i.e. bit 7 of A. -/
def execSeU (s : State) : Result := writeU true s

/-- `NE.U` (R216): inverts U, i.e. bit 7 of A. -/
def execNeU (s : State) : Result := writeU (!s.U) s

/-- `CP.U` (R217): replaces U (bit 7 of A) by the exclusive OR of V and U. -/
def execCpU (s : State) : Result := writeU (s.V ^^ s.U) s

/-- `NE.A` (R218): inverts every bit of A. -/
def execNeA (s : State) : Result := writeA (~~~s.A) s

/-- `NE.B` (R219): inverts every bit of B. -/
def execNeB (s : State) : Result := writeB (~~~s.B) s

/-- `NE.K` (R220): inverts every bit of K, i.e. of A and of B. -/
def execNeK (s : State) : Result := write16 .K (~~~s.K) s

/-- `ZO.A` (R221): clears A. -/
def execZoA (s : State) : Result := writeA 0 s

/-- `ZO.B` (R222): clears B. -/
def execZoB (s : State) : Result := writeB 0 s

/-- `ZO.K` (R223): clears K, i.e. A and B. -/
def execZoK (s : State) : Result := write16 .K 0 s

/-- `IV.A` (R224): adds the carry V to A; V receives the carry out. -/
def execIvA (s : State) : Result := writeAV (addCarry s.A 0 s.V) s

/-- `DV.A` (R225): subtracts the borrow V from A; V receives the borrow out. -/
def execDvA (s : State) : Result := writeAV (subBorrow s.A 0 s.V) s

/-- `IC.A` (R226): increments A. -/
def execIcA (s : State) : Result := writeA (s.A + 1) s

/-- `IC.K` (R227): increments the 16-bit K. -/
def execIcK (s : State) : Result := write16 .K (s.K + 1) s

/-- `IC.S` (R228): increments S. -/
def execIcS (s : State) : Result := write16 .S (s.S + 1) s

/-- `DC.A` (R229): decrements A. -/
def execDcA (s : State) : Result := writeA (s.A - 1) s

/-- `DC.K` (R230): decrements the 16-bit K. -/
def execDcK (s : State) : Result := write16 .K (s.K - 1) s

/-- `DC.S` (R231): decrements S. -/
def execDcS (s : State) : Result := write16 .S (s.S - 1) s

/-- `PV.A` (R232): fills A with eight copies of V, then clears V. -/
def execPvA (s : State) : Result := writeAV (copiesOf s.V, false) s

/-- `PV.B` (R233): fills B with eight copies of V, then clears V. -/
def execPvB (s : State) : Result := writeBV (copiesOf s.V, false) s

/-- `TZ.A` (R234): sets V if A is not zero; otherwise leaves V as it is. -/
def execTzA (s : State) : Result := writeV (testNonzero s.A s.V) s

/-- `TZ.B` (R235): sets V if B is not zero; otherwise leaves V as it is. -/
def execTzB (s : State) : Result := writeV (testNonzero s.B s.V) s

/-- `RD.A` (R236): rotates A one place towards bit 0 through V (9-bit rotate right). -/
def execRdA (s : State) : Result := writeAV (rotateDown s.A s.V) s

/-- `RD.B` (R237): rotates B one place towards bit 0 through V. -/
def execRdB (s : State) : Result := writeBV (rotateDown s.B s.V) s

/-- `RU.A` (R238): rotates A one place towards bit 7 through V (9-bit rotate left). -/
def execRuA (s : State) : Result := writeAV (rotateUp s.A s.V) s

/-- `RU.B` (R239): rotates B one place towards bit 7 through V. -/
def execRuB (s : State) : Result := writeBV (rotateUp s.B s.V) s

/-- `TA1` (R240, `TAs`): rotates A by s places towards bit 7, s = 1..7, within its 8 bits (V takes no part). -/
def execTa1 (s : State) : Result := writeA (rotl s.A 1) s

/-- `TA2` (R240, `TAs`): rotates A by s places towards bit 7, s = 1..7, within its 8 bits (V takes no part). -/
def execTa2 (s : State) : Result := writeA (rotl s.A 2) s

/-- `TA3` (R240, `TAs`): rotates A by s places towards bit 7, s = 1..7, within its 8 bits (V takes no part). -/
def execTa3 (s : State) : Result := writeA (rotl s.A 3) s

/-- `TA4` (R240, `TAs`): rotates A by s places towards bit 7, s = 1..7, within its 8 bits (V takes no part). -/
def execTa4 (s : State) : Result := writeA (rotl s.A 4) s

/-- `TA5` (R240, `TAs`): rotates A by s places towards bit 7, s = 1..7, within its 8 bits (V takes no part). -/
def execTa5 (s : State) : Result := writeA (rotl s.A 5) s

/-- `TA6` (R240, `TAs`): rotates A by s places towards bit 7, s = 1..7, within its 8 bits (V takes no part). -/
def execTa6 (s : State) : Result := writeA (rotl s.A 6) s

/-- `TA7` (R240, `TAs`): rotates A by s places towards bit 7, s = 1..7, within its 8 bits (V takes no part). -/
def execTa7 (s : State) : Result := writeA (rotl s.A 7) s

/-- `TK1` (R241, `TKs`): rotates the 16-bit K by s places towards bit 15, s = 1..15 (V takes no part). -/
def execTk1 (s : State) : Result := write16 .K (rotl s.K 1) s

/-- `TK2` (R241, `TKs`): rotates the 16-bit K by s places towards bit 15, s = 1..15 (V takes no part). -/
def execTk2 (s : State) : Result := write16 .K (rotl s.K 2) s

/-- `TK3` (R241, `TKs`): rotates the 16-bit K by s places towards bit 15, s = 1..15 (V takes no part). -/
def execTk3 (s : State) : Result := write16 .K (rotl s.K 3) s

/-- `TK4` (R241, `TKs`): rotates the 16-bit K by s places towards bit 15, s = 1..15 (V takes no part). -/
def execTk4 (s : State) : Result := write16 .K (rotl s.K 4) s

/-- `TK5` (R241, `TKs`): rotates the 16-bit K by s places towards bit 15, s = 1..15 (V takes no part). -/
def execTk5 (s : State) : Result := write16 .K (rotl s.K 5) s

/-- `TK6` (R241, `TKs`): rotates the 16-bit K by s places towards bit 15, s = 1..15 (V takes no part). -/
def execTk6 (s : State) : Result := write16 .K (rotl s.K 6) s

/-- `TK7` (R241, `TKs`): rotates the 16-bit K by s places towards bit 15, s = 1..15 (V takes no part). -/
def execTk7 (s : State) : Result := write16 .K (rotl s.K 7) s

/-- `TK8` (R241, `TKs`): rotates the 16-bit K by s places towards bit 15, s = 1..15 (V takes no part). -/
def execTk8 (s : State) : Result := write16 .K (rotl s.K 8) s

/-- `TK9` (R241, `TKs`): rotates the 16-bit K by s places towards bit 15, s = 1..15 (V takes no part). -/
def execTk9 (s : State) : Result := write16 .K (rotl s.K 9) s

/-- `TKa` (R241, `TKs`): rotates the 16-bit K by s places towards bit 15, s = 1..15 (V takes no part). -/
def execTka (s : State) : Result := write16 .K (rotl s.K 10) s

/-- `TKb` (R241, `TKs`): rotates the 16-bit K by s places towards bit 15, s = 1..15 (V takes no part). -/
def execTkb (s : State) : Result := write16 .K (rotl s.K 11) s

/-- `TKc` (R241, `TKs`): rotates the 16-bit K by s places towards bit 15, s = 1..15 (V takes no part). -/
def execTkc (s : State) : Result := write16 .K (rotl s.K 12) s

/-- `TKd` (R241, `TKs`): rotates the 16-bit K by s places towards bit 15, s = 1..15 (V takes no part). -/
def execTkd (s : State) : Result := write16 .K (rotl s.K 13) s

/-- `TKe` (R241, `TKs`): rotates the 16-bit K by s places towards bit 15, s = 1..15 (V takes no part). -/
def execTke (s : State) : Result := write16 .K (rotl s.K 14) s

/-- `TKf` (R241, `TKs`): rotates the 16-bit K by s places towards bit 15, s = 1..15 (V takes no part). -/
def execTkf (s : State) : Result := write16 .K (rotl s.K 15) s

end Sys2Proof.Machine
end

