-- ==== Sys2Proof/Machine/IncDec.lean ====
section
/-! DEFINITION. The meanings of spec/45_incdec.md: increments and decrements by a count. One definition per instruction, in the order of the file's
rules; each cites its rule. No instruction can fault (R400). -/

namespace Sys2Proof.Machine

/-- `IX0` (R250, `IXs`): increments X by s + 1, i.e. by 1..8. -/
def execIx0 (s : State) : Result := write16 .X (s.X + 0 + 1) s

/-- `IX1` (R250, `IXs`): increments X by s + 1, i.e. by 1..8. -/
def execIx1 (s : State) : Result := write16 .X (s.X + 1 + 1) s

/-- `IX2` (R250, `IXs`): increments X by s + 1, i.e. by 1..8. -/
def execIx2 (s : State) : Result := write16 .X (s.X + 2 + 1) s

/-- `IX3` (R250, `IXs`): increments X by s + 1, i.e. by 1..8. -/
def execIx3 (s : State) : Result := write16 .X (s.X + 3 + 1) s

/-- `IX4` (R250, `IXs`): increments X by s + 1, i.e. by 1..8. -/
def execIx4 (s : State) : Result := write16 .X (s.X + 4 + 1) s

/-- `IX5` (R250, `IXs`): increments X by s + 1, i.e. by 1..8. -/
def execIx5 (s : State) : Result := write16 .X (s.X + 5 + 1) s

/-- `IX6` (R250, `IXs`): increments X by s + 1, i.e. by 1..8. -/
def execIx6 (s : State) : Result := write16 .X (s.X + 6 + 1) s

/-- `IX7` (R250, `IXs`): increments X by s + 1, i.e. by 1..8. -/
def execIx7 (s : State) : Result := write16 .X (s.X + 7 + 1) s

/-- `IY0` (R251, `IYs`): increments Y by s + 1, i.e. by 1..8. -/
def execIy0 (s : State) : Result := write16 .Y (s.Y + 0 + 1) s

/-- `IY1` (R251, `IYs`): increments Y by s + 1, i.e. by 1..8. -/
def execIy1 (s : State) : Result := write16 .Y (s.Y + 1 + 1) s

/-- `IY2` (R251, `IYs`): increments Y by s + 1, i.e. by 1..8. -/
def execIy2 (s : State) : Result := write16 .Y (s.Y + 2 + 1) s

/-- `IY3` (R251, `IYs`): increments Y by s + 1, i.e. by 1..8. -/
def execIy3 (s : State) : Result := write16 .Y (s.Y + 3 + 1) s

/-- `IY4` (R251, `IYs`): increments Y by s + 1, i.e. by 1..8. -/
def execIy4 (s : State) : Result := write16 .Y (s.Y + 4 + 1) s

/-- `IY5` (R251, `IYs`): increments Y by s + 1, i.e. by 1..8. -/
def execIy5 (s : State) : Result := write16 .Y (s.Y + 5 + 1) s

/-- `IY6` (R251, `IYs`): increments Y by s + 1, i.e. by 1..8. -/
def execIy6 (s : State) : Result := write16 .Y (s.Y + 6 + 1) s

/-- `IY7` (R251, `IYs`): increments Y by s + 1, i.e. by 1..8. -/
def execIy7 (s : State) : Result := write16 .Y (s.Y + 7 + 1) s

/-- `IZ0` (R252, `IZs`): increments Z by s + 1, i.e. by 1..8. -/
def execIz0 (s : State) : Result := write16 .Z (s.Z + 0 + 1) s

/-- `IZ1` (R252, `IZs`): increments Z by s + 1, i.e. by 1..8. -/
def execIz1 (s : State) : Result := write16 .Z (s.Z + 1 + 1) s

/-- `IZ2` (R252, `IZs`): increments Z by s + 1, i.e. by 1..8. -/
def execIz2 (s : State) : Result := write16 .Z (s.Z + 2 + 1) s

/-- `IZ3` (R252, `IZs`): increments Z by s + 1, i.e. by 1..8. -/
def execIz3 (s : State) : Result := write16 .Z (s.Z + 3 + 1) s

/-- `IZ4` (R252, `IZs`): increments Z by s + 1, i.e. by 1..8. -/
def execIz4 (s : State) : Result := write16 .Z (s.Z + 4 + 1) s

/-- `IZ5` (R252, `IZs`): increments Z by s + 1, i.e. by 1..8. -/
def execIz5 (s : State) : Result := write16 .Z (s.Z + 5 + 1) s

/-- `IZ6` (R252, `IZs`): increments Z by s + 1, i.e. by 1..8. -/
def execIz6 (s : State) : Result := write16 .Z (s.Z + 6 + 1) s

/-- `IZ7` (R252, `IZs`): increments Z by s + 1, i.e. by 1..8. -/
def execIz7 (s : State) : Result := write16 .Z (s.Z + 7 + 1) s

/-- `DX0` (R253, `DXs`): decrements X by s + 1, i.e. by 1..8. -/
def execDx0 (s : State) : Result := write16 .X (s.X - 0 - 1) s

/-- `DX1` (R253, `DXs`): decrements X by s + 1, i.e. by 1..8. -/
def execDx1 (s : State) : Result := write16 .X (s.X - 1 - 1) s

/-- `DX2` (R253, `DXs`): decrements X by s + 1, i.e. by 1..8. -/
def execDx2 (s : State) : Result := write16 .X (s.X - 2 - 1) s

/-- `DX3` (R253, `DXs`): decrements X by s + 1, i.e. by 1..8. -/
def execDx3 (s : State) : Result := write16 .X (s.X - 3 - 1) s

/-- `DX4` (R253, `DXs`): decrements X by s + 1, i.e. by 1..8. -/
def execDx4 (s : State) : Result := write16 .X (s.X - 4 - 1) s

/-- `DX5` (R253, `DXs`): decrements X by s + 1, i.e. by 1..8. -/
def execDx5 (s : State) : Result := write16 .X (s.X - 5 - 1) s

/-- `DX6` (R253, `DXs`): decrements X by s + 1, i.e. by 1..8. -/
def execDx6 (s : State) : Result := write16 .X (s.X - 6 - 1) s

/-- `DX7` (R253, `DXs`): decrements X by s + 1, i.e. by 1..8. -/
def execDx7 (s : State) : Result := write16 .X (s.X - 7 - 1) s

/-- `DY0` (R254, `DYs`): decrements Y by s + 1, i.e. by 1..8. -/
def execDy0 (s : State) : Result := write16 .Y (s.Y - 0 - 1) s

/-- `DY1` (R254, `DYs`): decrements Y by s + 1, i.e. by 1..8. -/
def execDy1 (s : State) : Result := write16 .Y (s.Y - 1 - 1) s

/-- `DY2` (R254, `DYs`): decrements Y by s + 1, i.e. by 1..8. -/
def execDy2 (s : State) : Result := write16 .Y (s.Y - 2 - 1) s

/-- `DY3` (R254, `DYs`): decrements Y by s + 1, i.e. by 1..8. -/
def execDy3 (s : State) : Result := write16 .Y (s.Y - 3 - 1) s

/-- `DY4` (R254, `DYs`): decrements Y by s + 1, i.e. by 1..8. -/
def execDy4 (s : State) : Result := write16 .Y (s.Y - 4 - 1) s

/-- `DY5` (R254, `DYs`): decrements Y by s + 1, i.e. by 1..8. -/
def execDy5 (s : State) : Result := write16 .Y (s.Y - 5 - 1) s

/-- `DY6` (R254, `DYs`): decrements Y by s + 1, i.e. by 1..8. -/
def execDy6 (s : State) : Result := write16 .Y (s.Y - 6 - 1) s

/-- `DY7` (R254, `DYs`): decrements Y by s + 1, i.e. by 1..8. -/
def execDy7 (s : State) : Result := write16 .Y (s.Y - 7 - 1) s

/-- `DZ0` (R255, `DZs`): decrements Z by s + 1, i.e. by 1..8. -/
def execDz0 (s : State) : Result := write16 .Z (s.Z - 0 - 1) s

/-- `DZ1` (R255, `DZs`): decrements Z by s + 1, i.e. by 1..8. -/
def execDz1 (s : State) : Result := write16 .Z (s.Z - 1 - 1) s

/-- `DZ2` (R255, `DZs`): decrements Z by s + 1, i.e. by 1..8. -/
def execDz2 (s : State) : Result := write16 .Z (s.Z - 2 - 1) s

/-- `DZ3` (R255, `DZs`): decrements Z by s + 1, i.e. by 1..8. -/
def execDz3 (s : State) : Result := write16 .Z (s.Z - 3 - 1) s

/-- `DZ4` (R255, `DZs`): decrements Z by s + 1, i.e. by 1..8. -/
def execDz4 (s : State) : Result := write16 .Z (s.Z - 4 - 1) s

/-- `DZ5` (R255, `DZs`): decrements Z by s + 1, i.e. by 1..8. -/
def execDz5 (s : State) : Result := write16 .Z (s.Z - 5 - 1) s

/-- `DZ6` (R255, `DZs`): decrements Z by s + 1, i.e. by 1..8. -/
def execDz6 (s : State) : Result := write16 .Z (s.Z - 6 - 1) s

/-- `DZ7` (R255, `DZs`): decrements Z by s + 1, i.e. by 1..8. -/
def execDz7 (s : State) : Result := write16 .Z (s.Z - 7 - 1) s

/-- `IXE` (R256): increments X by 1 and exchanges A and B. -/
def execIxe (s : State) : Result := write16swapAB .X (s.X + 1) s

/-- `IYE` (R257): increments Y by 1 and exchanges A and B. -/
def execIye (s : State) : Result := write16swapAB .Y (s.Y + 1) s

/-- `IZE` (R258): increments Z by 1 and exchanges A and B. -/
def execIze (s : State) : Result := write16swapAB .Z (s.Z + 1) s

/-- `DXE` (R259): decrements X by 1 and exchanges A and B. -/
def execDxe (s : State) : Result := write16swapAB .X (s.X - 1) s

/-- `DYE` (R260): decrements Y by 1 and exchanges A and B. -/
def execDye (s : State) : Result := write16swapAB .Y (s.Y - 1) s

/-- `DZE` (R261): decrements Z by 1 and exchanges A and B. -/
def execDze (s : State) : Result := write16swapAB .Z (s.Z - 1) s

/-- `IKL nn` (R262): adds nn + 1 (1..256) to the 16-bit K. -/
def execIkl (nn : Byte) (s : State) : Result := write16imm .K (s.K + zext16 nn + 1) s

/-- `DKL nn` (R263): subtracts nn + 1 (1..256) from the 16-bit K. -/
def execDkl (nn : Byte) (s : State) : Result := write16imm .K (s.K - zext16 nn - 1) s

/-- `IXL nn` (R264): adds nn + 1 (1..256) to X. -/
def execIxl (nn : Byte) (s : State) : Result := write16imm .X (s.X + zext16 nn + 1) s

/-- `IYL nn` (R265): adds nn + 1 (1..256) to Y. -/
def execIyl (nn : Byte) (s : State) : Result := write16imm .Y (s.Y + zext16 nn + 1) s

/-- `IZL nn` (R266): adds nn + 1 (1..256) to Z. -/
def execIzl (nn : Byte) (s : State) : Result := write16imm .Z (s.Z + zext16 nn + 1) s

/-- `DXL nn` (R267): subtracts nn + 1 (1..256) from X. -/
def execDxl (nn : Byte) (s : State) : Result := write16imm .X (s.X - zext16 nn - 1) s

/-- `DYL nn` (R268): subtracts nn + 1 (1..256) from Y. -/
def execDyl (nn : Byte) (s : State) : Result := write16imm .Y (s.Y - zext16 nn - 1) s

/-- `DZL nn` (R269): subtracts nn + 1 (1..256) from Z. -/
def execDzl (nn : Byte) (s : State) : Result := write16imm .Z (s.Z - zext16 nn - 1) s

end Sys2Proof.Machine
end

