-- ==== Sys2Proof/Machine/PagingIo.lean ====
section
/-! DEFINITION. The meanings of spec/48_paging_io.md: page switch, I/O and halt. One definition per instruction, in the order of the file's
rules; each cites its rule. No instruction can fault (R400). -/

namespace Sys2Proof.Machine

/-- `SW.X` (R330): asks the platform to switch the memory page used for accesses through X. No CPU register changes. -/
def execSwX (s : State) : Result := switchPage .X s

/-- `SW.Y` (R331): asks the platform to switch the memory page used for accesses through Y. No CPU register changes. -/
def execSwY (s : State) : Result := switchPage .Y s

/-- `SW.Z` (R332): asks the platform to switch the memory page used for accesses through Z. No CPU register changes. -/
def execSwZ (s : State) : Result := switchPage .Z s

/-- `H..` (R333): a page switch for P is signalled after the fetch of the following opcode; then that opcode decides: a
following `J..` completes a jump into the new page (R334); a following `H..` shows K, the final output, and halts, P at
the second `H..` (R336, D16); any other makes it an I/O input into A whose second BP cancels the page switch (R335). -/
def execH (s : State) : Result :=
  let n := s.memRead .FE (s.P + 1)
  let t := s.fetchNext.pageSwitch .BP .FE
  if n = 0xff then .next (t.retireSignals s [(.FE, .BP)])
  else if n = 0x00 then .next ((t.kOut s.K).halt.retireSignals s [(.FE, .BP), (.KA, .BN)])
  else .next (((t.inputA s.K).pageSwitch .BP .HA).retireSignals s [(.FE, .BP), (.HA, .BP)])

end Sys2Proof.Machine
end

