-- ==== Sys2Proof/Machine/Transfer16.lean ====
section
/-! DEFINITION. The meanings of spec/43_transfer16.md: 16-bit transfers, byte moves, exchanges, clears. One definition per instruction, in the order of the file's
rules; each cites its rule. No instruction can fault (R400). -/

namespace Sys2Proof.Machine

/-- `GT.S` (R170): copies S into K. -/
def execGtS (s : State) : Result := write16 .K s.S s

/-- `ST.S` (R171): copies K into S. -/
def execStS (s : State) : Result := write16 .S s.K s

/-- `GT.X` (R172): copies X into K. -/
def execGtX (s : State) : Result := write16 .K s.X s

/-- `GT.Y` (R173): copies Y into K. -/
def execGtY (s : State) : Result := write16 .K s.Y s

/-- `GT.Z` (R174): copies Z into K. -/
def execGtZ (s : State) : Result := write16 .K s.Z s

/-- `ST.X` (R175): copies K into X. -/
def execStX (s : State) : Result := write16 .X s.K s

/-- `ST.Y` (R176): copies K into Y. -/
def execStY (s : State) : Result := write16 .Y s.K s

/-- `ST.Z` (R177): copies K into Z. -/
def execStZ (s : State) : Result := write16 .Z s.K s

/-- `RS.X` (R178): copies X into S. -/
def execRsX (s : State) : Result := write16 .S s.X s

/-- `RS.Y` (R179): copies Y into S. -/
def execRsY (s : State) : Result := write16 .S s.Y s

/-- `RS.Z` (R180): copies Z into S. -/
def execRsZ (s : State) : Result := write16 .S s.Z s

/-- `SS.X` (R181): copies S into X. -/
def execSsX (s : State) : Result := write16 .X s.S s

/-- `SS.Y` (R182): copies S into Y. -/
def execSsY (s : State) : Result := write16 .Y s.S s

/-- `SS.Z` (R183): copies S into Z. -/
def execSsZ (s : State) : Result := write16 .Z s.S s

/-- `SL.K` (R184): moves A into the low byte of K and clears the high byte: K becomes the zero-extended old A. -/
def execSlK (s : State) : Result := write16 .K (zext16 s.A) s

/-- `SL.S` (R185): loads S with the zero-extended A. -/
def execSlS (s : State) : Result := write16 .S (zext16 s.A) s

/-- `SL.X` (R186): loads X with the zero-extended A. -/
def execSlX (s : State) : Result := write16 .X (zext16 s.A) s

/-- `SL.Y` (R187): loads Y with the zero-extended A. -/
def execSlY (s : State) : Result := write16 .Y (zext16 s.A) s

/-- `SL.Z` (R188): loads Z with the zero-extended A. -/
def execSlZ (s : State) : Result := write16 .Z (zext16 s.A) s

/-- `GL.S` (R189): copies the low byte of S into A. -/
def execGlS (s : State) : Result := writeA (lowByte s.S) s

/-- `GH.S` (R190): copies the high byte of S into A. -/
def execGhS (s : State) : Result := writeA (highByte s.S) s

/-- `GL.X` (R191): copies the low byte of X into A. -/
def execGlX (s : State) : Result := writeA (lowByte s.X) s

/-- `GL.Y` (R192): copies the low byte of Y into A. -/
def execGlY (s : State) : Result := writeA (lowByte s.Y) s

/-- `GL.Z` (R193): copies the low byte of Z into A. -/
def execGlZ (s : State) : Result := writeA (lowByte s.Z) s

/-- `GH.X` (R194): copies the high byte of X into A. -/
def execGhX (s : State) : Result := writeA (highByte s.X) s

/-- `GH.Y` (R195): copies the high byte of Y into A. -/
def execGhY (s : State) : Result := writeA (highByte s.Y) s

/-- `GH.Z` (R196): copies the high byte of Z into A. -/
def execGhZ (s : State) : Result := writeA (highByte s.Z) s

/-- `EX.S` (R197): exchanges K and S. -/
def execExS (s : State) : Result := exchange16 .K .S s

/-- `EX.X` (R198): exchanges K and X. -/
def execExX (s : State) : Result := exchange16 .K .X s

/-- `EX.Y` (R199): exchanges K and Y. -/
def execExY (s : State) : Result := exchange16 .K .Y s

/-- `EX.Z` (R200): exchanges K and Z. -/
def execExZ (s : State) : Result := exchange16 .K .Z s

/-- `ES.X` (R201): exchanges S and X. -/
def execEsX (s : State) : Result := exchange16 .S .X s

/-- `ES.Y` (R202): exchanges S and Y. -/
def execEsY (s : State) : Result := exchange16 .S .Y s

/-- `ES.Z` (R203): exchanges S and Z. -/
def execEsZ (s : State) : Result := exchange16 .S .Z s

/-- `ZO.S` (R204): clears S. -/
def execZoS (s : State) : Result := write16 .S 0 s

/-- `ZO.X` (R205): clears X. -/
def execZoX (s : State) : Result := write16 .X 0 s

/-- `ZO.Y` (R206): clears Y. -/
def execZoY (s : State) : Result := write16 .Y 0 s

/-- `ZO.Z` (R207): clears Z. -/
def execZoZ (s : State) : Result := write16 .Z 0 s

end Sys2Proof.Machine
end

