-- ==== Sys2Proof/Machine/Dispatch.lean ====
section
/-! DEFINITION. The dispatch: one arm per constructor of `Instr`, each one direct call of its meaning. -/

namespace Sys2Proof.Machine

def exec (i : Instr) (s : State) : Host.Outcome State Fault Refusal :=
  match i with
  | .h => Sys2Proof.Machine.execH s
  | .stS => Sys2Proof.Machine.execStS s
  | .ssX => Sys2Proof.Machine.execSsX s
  | .stX => Sys2Proof.Machine.execStX s
  | .ssY => Sys2Proof.Machine.execSsY s
  | .stY => Sys2Proof.Machine.execStY s
  | .ssZ => Sys2Proof.Machine.execSsZ s
  | .stZ => Sys2Proof.Machine.execStZ s
  | .ix0 => Sys2Proof.Machine.execIx0 s
  | .ix1 => Sys2Proof.Machine.execIx1 s
  | .ix2 => Sys2Proof.Machine.execIx2 s
  | .ix3 => Sys2Proof.Machine.execIx3 s
  | .ix4 => Sys2Proof.Machine.execIx4 s
  | .ix5 => Sys2Proof.Machine.execIx5 s
  | .ix6 => Sys2Proof.Machine.execIx6 s
  | .ix7 => Sys2Proof.Machine.execIx7 s
  | .iy0 => Sys2Proof.Machine.execIy0 s
  | .iy1 => Sys2Proof.Machine.execIy1 s
  | .iy2 => Sys2Proof.Machine.execIy2 s
  | .iy3 => Sys2Proof.Machine.execIy3 s
  | .iy4 => Sys2Proof.Machine.execIy4 s
  | .iy5 => Sys2Proof.Machine.execIy5 s
  | .iy6 => Sys2Proof.Machine.execIy6 s
  | .iy7 => Sys2Proof.Machine.execIy7 s
  | .iz0 => Sys2Proof.Machine.execIz0 s
  | .iz1 => Sys2Proof.Machine.execIz1 s
  | .iz2 => Sys2Proof.Machine.execIz2 s
  | .iz3 => Sys2Proof.Machine.execIz3 s
  | .iz4 => Sys2Proof.Machine.execIz4 s
  | .iz5 => Sys2Proof.Machine.execIz5 s
  | .iz6 => Sys2Proof.Machine.execIz6 s
  | .iz7 => Sys2Proof.Machine.execIz7 s
  | .zoS => Sys2Proof.Machine.execZoS s
  | .slS => Sys2Proof.Machine.execSlS s
  | .zoX => Sys2Proof.Machine.execZoX s
  | .slX => Sys2Proof.Machine.execSlX s
  | .zoY => Sys2Proof.Machine.execZoY s
  | .slY => Sys2Proof.Machine.execSlY s
  | .zoZ => Sys2Proof.Machine.execZoZ s
  | .slZ => Sys2Proof.Machine.execSlZ s
  | .dx0 => Sys2Proof.Machine.execDx0 s
  | .dx1 => Sys2Proof.Machine.execDx1 s
  | .dx2 => Sys2Proof.Machine.execDx2 s
  | .dx3 => Sys2Proof.Machine.execDx3 s
  | .dx4 => Sys2Proof.Machine.execDx4 s
  | .dx5 => Sys2Proof.Machine.execDx5 s
  | .dx6 => Sys2Proof.Machine.execDx6 s
  | .dx7 => Sys2Proof.Machine.execDx7 s
  | .dy0 => Sys2Proof.Machine.execDy0 s
  | .dy1 => Sys2Proof.Machine.execDy1 s
  | .dy2 => Sys2Proof.Machine.execDy2 s
  | .dy3 => Sys2Proof.Machine.execDy3 s
  | .dy4 => Sys2Proof.Machine.execDy4 s
  | .dy5 => Sys2Proof.Machine.execDy5 s
  | .dy6 => Sys2Proof.Machine.execDy6 s
  | .dy7 => Sys2Proof.Machine.execDy7 s
  | .dz0 => Sys2Proof.Machine.execDz0 s
  | .dz1 => Sys2Proof.Machine.execDz1 s
  | .dz2 => Sys2Proof.Machine.execDz2 s
  | .dz3 => Sys2Proof.Machine.execDz3 s
  | .dz4 => Sys2Proof.Machine.execDz4 s
  | .dz5 => Sys2Proof.Machine.execDz5 s
  | .dz6 => Sys2Proof.Machine.execDz6 s
  | .dz7 => Sys2Proof.Machine.execDz7 s
  | .oVZ nn => Sys2Proof.Machine.execOVZ nn s
  | .oVS nn => Sys2Proof.Machine.execOVS nn s
  | .bVZ nn => Sys2Proof.Machine.execBVZ nn s
  | .bVS nn => Sys2Proof.Machine.execBVS nn s
  | .oUZ nn => Sys2Proof.Machine.execOUZ nn s
  | .oUS nn => Sys2Proof.Machine.execOUS nn s
  | .bUZ nn => Sys2Proof.Machine.execBUZ nn s
  | .bUS nn => Sys2Proof.Machine.execBUS nn s
  | .oAZ nn => Sys2Proof.Machine.execOAZ nn s
  | .oAS nn => Sys2Proof.Machine.execOAS nn s
  | .bAZ nn => Sys2Proof.Machine.execBAZ nn s
  | .bAS nn => Sys2Proof.Machine.execBAS nn s
  | .oKZ nn => Sys2Proof.Machine.execOKZ nn s
  | .oKS nn => Sys2Proof.Machine.execOKS nn s
  | .bKZ nn => Sys2Proof.Machine.execBKZ nn s
  | .bKS nn => Sys2Proof.Machine.execBKS nn s
  | .oWY nn => Sys2Proof.Machine.execOWY nn s
  | .oRP nn => Sys2Proof.Machine.execORP nn s
  | .bWY nn => Sys2Proof.Machine.execBWY nn s
  | .bCN nn => Sys2Proof.Machine.execBCN nn s
  | .gtr nn => Sys2Proof.Machine.execGtr nn s
  | .adr nn => Sys2Proof.Machine.execAdr nn s
  | .gta nn => Sys2Proof.Machine.execGta nn s
  | .nol nn => Sys2Proof.Machine.execNol nn s
  | .ikl nn => Sys2Proof.Machine.execIkl nn s
  | .dkl nn => Sys2Proof.Machine.execDkl nn s
  | .ixl nn => Sys2Proof.Machine.execIxl nn s
  | .dxl nn => Sys2Proof.Machine.execDxl nn s
  | .iyl nn => Sys2Proof.Machine.execIyl nn s
  | .dyl nn => Sys2Proof.Machine.execDyl nn s
  | .izl nn => Sys2Proof.Machine.execIzl nn s
  | .dzl nn => Sys2Proof.Machine.execDzl nn s
  | .ad nn => Sys2Proof.Machine.execAd nn s
  | .lv nn => Sys2Proof.Machine.execLv nn s
  | .av nn => Sys2Proof.Machine.execAv nn s
  | .sv nn => Sys2Proof.Machine.execSv nn s
  | .gt nn => Sys2Proof.Machine.execGt nn s
  | .an nn => Sys2Proof.Machine.execAn nn s
  | .xr nn => Sys2Proof.Machine.execXr nn s
  | .nr nn => Sys2Proof.Machine.execNr nn s
  | .stmx => Sys2Proof.Machine.execStmx s
  | .lvmx => Sys2Proof.Machine.execLvmx s
  | .avmx => Sys2Proof.Machine.execAvmx s
  | .svmx => Sys2Proof.Machine.execSvmx s
  | .gtmx => Sys2Proof.Machine.execGtmx s
  | .anmx => Sys2Proof.Machine.execAnmx s
  | .xrmx => Sys2Proof.Machine.execXrmx s
  | .nrmx => Sys2Proof.Machine.execNrmx s
  | .stmy => Sys2Proof.Machine.execStmy s
  | .lvmy => Sys2Proof.Machine.execLvmy s
  | .avmy => Sys2Proof.Machine.execAvmy s
  | .svmy => Sys2Proof.Machine.execSvmy s
  | .gtmy => Sys2Proof.Machine.execGtmy s
  | .anmy => Sys2Proof.Machine.execAnmy s
  | .xrmy => Sys2Proof.Machine.execXrmy s
  | .nrmy => Sys2Proof.Machine.execNrmy s
  | .stmz => Sys2Proof.Machine.execStmz s
  | .lvmz => Sys2Proof.Machine.execLvmz s
  | .avmz => Sys2Proof.Machine.execAvmz s
  | .svmz => Sys2Proof.Machine.execSvmz s
  | .gtmz => Sys2Proof.Machine.execGtmz s
  | .anmz => Sys2Proof.Machine.execAnmz s
  | .xrmz => Sys2Proof.Machine.execXrmz s
  | .nrmz => Sys2Proof.Machine.execNrmz s
  | .no2 => Sys2Proof.Machine.execNo2 s
  | .tk1 => Sys2Proof.Machine.execTk1 s
  | .tk2 => Sys2Proof.Machine.execTk2 s
  | .tk3 => Sys2Proof.Machine.execTk3 s
  | .tk4 => Sys2Proof.Machine.execTk4 s
  | .tk5 => Sys2Proof.Machine.execTk5 s
  | .tk6 => Sys2Proof.Machine.execTk6 s
  | .tk7 => Sys2Proof.Machine.execTk7 s
  | .tk8 => Sys2Proof.Machine.execTk8 s
  | .tk9 => Sys2Proof.Machine.execTk9 s
  | .tka => Sys2Proof.Machine.execTka s
  | .tkb => Sys2Proof.Machine.execTkb s
  | .tkc => Sys2Proof.Machine.execTkc s
  | .tkd => Sys2Proof.Machine.execTkd s
  | .tke => Sys2Proof.Machine.execTke s
  | .tkf => Sys2Proof.Machine.execTkf s
  | .no1 => Sys2Proof.Machine.execNo1 s
  | .ta1 => Sys2Proof.Machine.execTa1 s
  | .ta2 => Sys2Proof.Machine.execTa2 s
  | .ta3 => Sys2Proof.Machine.execTa3 s
  | .ta4 => Sys2Proof.Machine.execTa4 s
  | .ta5 => Sys2Proof.Machine.execTa5 s
  | .ta6 => Sys2Proof.Machine.execTa6 s
  | .ta7 => Sys2Proof.Machine.execTa7 s
  | .stB => Sys2Proof.Machine.execStB s
  | .lvB => Sys2Proof.Machine.execLvB s
  | .avB => Sys2Proof.Machine.execAvB s
  | .svB => Sys2Proof.Machine.execSvB s
  | .gtB => Sys2Proof.Machine.execGtB s
  | .anB => Sys2Proof.Machine.execAnB s
  | .xrB => Sys2Proof.Machine.execXrB s
  | .nrB => Sys2Proof.Machine.execNrB s
  | .exS => Sys2Proof.Machine.execExS s
  | .lvS => Sys2Proof.Machine.execLvS s
  | .avS => Sys2Proof.Machine.execAvS s
  | .svS => Sys2Proof.Machine.execSvS s
  | .gtS => Sys2Proof.Machine.execGtS s
  | .ldS => Sys2Proof.Machine.execLdS s
  | .adS => Sys2Proof.Machine.execAdS s
  | .sdS => Sys2Proof.Machine.execSdS s
  | .exX => Sys2Proof.Machine.execExX s
  | .esX => Sys2Proof.Machine.execEsX s
  | .swX => Sys2Proof.Machine.execSwX s
  | .rsX => Sys2Proof.Machine.execRsX s
  | .gtX => Sys2Proof.Machine.execGtX s
  | .ldX => Sys2Proof.Machine.execLdX s
  | .adX => Sys2Proof.Machine.execAdX s
  | .sdX => Sys2Proof.Machine.execSdX s
  | .exY => Sys2Proof.Machine.execExY s
  | .esY => Sys2Proof.Machine.execEsY s
  | .swY => Sys2Proof.Machine.execSwY s
  | .rsY => Sys2Proof.Machine.execRsY s
  | .gtY => Sys2Proof.Machine.execGtY s
  | .ldY => Sys2Proof.Machine.execLdY s
  | .adY => Sys2Proof.Machine.execAdY s
  | .sdY => Sys2Proof.Machine.execSdY s
  | .exZ => Sys2Proof.Machine.execExZ s
  | .esZ => Sys2Proof.Machine.execEsZ s
  | .swZ => Sys2Proof.Machine.execSwZ s
  | .rsZ => Sys2Proof.Machine.execRsZ s
  | .gtZ => Sys2Proof.Machine.execGtZ s
  | .ldZ => Sys2Proof.Machine.execLdZ s
  | .adZ => Sys2Proof.Machine.execAdZ s
  | .sdZ => Sys2Proof.Machine.execSdZ s
  | .rVZ => Sys2Proof.Machine.execRVZ s
  | .rVS => Sys2Proof.Machine.execRVS s
  | .rUZ => Sys2Proof.Machine.execRUZ s
  | .rUS => Sys2Proof.Machine.execRUS s
  | .rAZ => Sys2Proof.Machine.execRAZ s
  | .rAS => Sys2Proof.Machine.execRAS s
  | .rKZ => Sys2Proof.Machine.execRKZ s
  | .rKS => Sys2Proof.Machine.execRKS s
  | .rWY => Sys2Proof.Machine.execRWY s
  | .rCN => Sys2Proof.Machine.execRCN s
  | .rIX => Sys2Proof.Machine.execRIX s
  | .rDX => Sys2Proof.Machine.execRDX s
  | .rIY => Sys2Proof.Machine.execRIY s
  | .rDY => Sys2Proof.Machine.execRDY s
  | .rIZ => Sys2Proof.Machine.execRIZ s
  | .rDZ => Sys2Proof.Machine.execRDZ s
  | .ghS => Sys2Proof.Machine.execGhS s
  | .glS => Sys2Proof.Machine.execGlS s
  | .ghX => Sys2Proof.Machine.execGhX s
  | .glX => Sys2Proof.Machine.execGlX s
  | .ghY => Sys2Proof.Machine.execGhY s
  | .glY => Sys2Proof.Machine.execGlY s
  | .ghZ => Sys2Proof.Machine.execGhZ s
  | .glZ => Sys2Proof.Machine.execGlZ s
  | .icS => Sys2Proof.Machine.execIcS s
  | .dcS => Sys2Proof.Machine.execDcS s
  | .ixe => Sys2Proof.Machine.execIxe s
  | .dxe => Sys2Proof.Machine.execDxe s
  | .iye => Sys2Proof.Machine.execIye s
  | .dye => Sys2Proof.Machine.execDye s
  | .ize => Sys2Proof.Machine.execIze s
  | .dze => Sys2Proof.Machine.execDze s
  | .zoU => Sys2Proof.Machine.execZoU s
  | .seU => Sys2Proof.Machine.execSeU s
  | .zoV => Sys2Proof.Machine.execZoV s
  | .seV => Sys2Proof.Machine.execSeV s
  | .cpU => Sys2Proof.Machine.execCpU s
  | .neU => Sys2Proof.Machine.execNeU s
  | .cpV => Sys2Proof.Machine.execCpV s
  | .neV => Sys2Proof.Machine.execNeV s
  | .pvA => Sys2Proof.Machine.execPvA s
  | .tzA => Sys2Proof.Machine.execTzA s
  | .pvB => Sys2Proof.Machine.execPvB s
  | .tzB => Sys2Proof.Machine.execTzB s
  | .rdA => Sys2Proof.Machine.execRdA s
  | .ruA => Sys2Proof.Machine.execRuA s
  | .rdB => Sys2Proof.Machine.execRdB s
  | .ruB => Sys2Proof.Machine.execRuB s
  | .zoA => Sys2Proof.Machine.execZoA s
  | .neA => Sys2Proof.Machine.execNeA s
  | .zoB => Sys2Proof.Machine.execZoB s
  | .neB => Sys2Proof.Machine.execNeB s
  | .ivA => Sys2Proof.Machine.execIvA s
  | .dvA => Sys2Proof.Machine.execDvA s
  | .slK => Sys2Proof.Machine.execSlK s
  | .sRP => Sys2Proof.Machine.execSRP s
  | .icK => Sys2Proof.Machine.execIcK s
  | .dcK => Sys2Proof.Machine.execDcK s
  | .zoK => Sys2Proof.Machine.execZoK s
  | .neK => Sys2Proof.Machine.execNeK s
  | .icA => Sys2Proof.Machine.execIcA s
  | .dcA => Sys2Proof.Machine.execDcA s
  | .gtQ => Sys2Proof.Machine.execGtQ s
  | .j => Sys2Proof.Machine.execJ s

end Sys2Proof.Machine
end

