-- ==== Sys2Proof/Machine/Reset.lean ====
section
/-! DEFINITION. The reset entry (R404, R450), the only entry the hardware has: there is no exception, no interrupt and no
return from one (R400, R401, R405), so no operation for them. And what an instruction that RES abandons has done. -/

namespace Sys2Proof.Machine

/-- A data access as a platform action. -/
def DataAccess.action (d : DataAccess) : PlatformAction :=
  match d.type with
  | .WX => .write d.type d.addr d.byte
  | .WY => .write d.type d.addr d.byte
  | .WZ => .write d.type d.addr d.byte
  | _ => .read d.type d.addr

/-- The accesses of an instruction with this record, in their order (R52, R62, D13, N9). -/
def BusActivity.actions (b : BusActivity) : List PlatformAction :=
  match b.data with
  | some d =>
    (match Config.fetchOrder with
    | .fetchFirst => [.read .FE b.fetch, d.action]
    | .dataFirst => [d.action, .read .FE b.fetch])
  | none =>
    b.operand.toList.map (.read .RP)
      ++ [.unstated false b.unstated, .read .FE b.fetch, .unstated true b.unstated]

/-- What an instruction shows the platform after its fetch: the page switch of SW.% (R330 to R332), the cycles of H..
(R333), which depend on the opcode fetched; no other instruction shows anything (R57, R58). -/
def State.signals (s : State) (i : Instr) (fetched : Byte) : List PlatformAction :=
  if opcode i = 0xaa then [.pageSwitch .BX .FE]
  else if opcode i = 0xb2 then [.pageSwitch .BY .FE]
  else if opcode i = 0xba then [.pageSwitch .BZ .FE]
  else if opcode i = 0x00 then
    if fetched = 0xff then [.pageSwitch .BP .FE]
    else if fetched = 0x00 then [.pageSwitch .BP .FE, .kOut s.K]
    else [.pageSwitch .BP .FE, .ioRead s.K, .pageSwitch .BP .HA]
  else []

/-- Everything the instruction `i` does to the platform, in its order. -/
def State.platformActions (s : State) (i : Instr) : List PlatformAction :=
  match exec i s with
  | .next t => t.bus.actions ++ s.signals i t.IR
  | _ => []

/-- The instruction in progress is abandoned by RES: a free prefix of its platform actions has happened (R402, D24, U6);
in the halted state there is none. -/
def State.abandon (s : State) : State :=
  if s.halted then s
  else s.setPlatform (s.platform.run ((s.platformActions s.nextInstr).take (Config.abandonedAfter s.resetCount)))

/-- The reset entry (R404, R450): `P <- START`, `R <- START`, `A <- A0`, `halted <- 0`, the other registers unspecified,
then the (FE/BN) cycle for the first opcode, all the CPU does to the platform. -/
def State.resetEntry (s : State) (r : ResetInput) (u : Unspecified) : State :=
  { s with
    P := r.start, R := r.start, A := r.a0, halted := false
    B := u.B, Q := u.Q, S := u.S, X := u.X, Y := u.Y, Z := u.Z, V := u.V
    IR := s.memRead .FE r.start
    platform := (s.platform.read .FE r.start).2
    bus := { fetch := r.start, operand := none, data := none, unstated := 0 }
    fullCycles := some [(.FE, .BN)] }

/-- What the `n`-th reset taken by a step leaves in the registers it does not load: free values (U1, log entry 6). -/
def Unspecified.free (n : Nat) : Unspecified where
  B := Config.resetB n
  Q := Config.resetQ n
  S := Config.resetS n
  X := Config.resetX n
  Y := Config.resetY n
  Z := Config.resetZ n
  V := Config.resetV n

/-- A step that finds RES active: the instruction in progress is abandoned and the reset entry taken; RES has ended. -/
def State.takeReset (s : State) (r : ResetInput) : State :=
  { s.abandon.resetEntry r (Unspecified.free s.resetCount) with res := none, resetCount := s.resetCount + 1 }

end Sys2Proof.Machine
end

