-- ==== Sys2Proof/Machine/Step.lean ====
section
/-! DEFINITION. One step of the machine (R34, R402, R407), and the placing of a word where the next step fetches. -/

namespace Sys2Proof.Machine

/-- One step: RES is taken if it is active (R402); the halted CPU executes nothing (R35, R407); otherwise the instruction
whose opcode is IR executes, which fetches the following opcode (R34). -/
def step (s : State) : Host.Outcome State Fault Refusal :=
  match s.res with
  | some r => .next (s.takeReset r)
  | none => if s.halted then .fault .halted else exec s.nextInstr s

/-- The state with a table instruction where the next step fetches: its bytes at P and P + 1, its opcode in IR (R34). -/
def State.withFetchWord (s : State) (nbits w : Nat) : State := s.placeWord nbits w

end Sys2Proof.Machine
end

