-- ==== Sys2Proof/Safety.lean ====
section
/-! DEFINITION. The terms in which statements about the machine are written: what an instruction leaves unchanged (the
frame, R39), how it ends (R27, R34, R52, R457), when a run has ended (R407), and the invariants of the machine. -/

namespace Sys2Proof.Machine

/-- The platform behind the bus is the default one (R56). Terms without this premise speak of every platform. -/
def State.onDefault (s : State) : Prop := s.platform.external = none

/-- The byte of the default platform's memory at an address. -/
def State.byteAt (s : State) (a : Word) : Byte := s.platform.mem.get a.toNat

/-! The frame. -/

/-- What an instruction may leave as it was. P, IR, `cycles`, `bus` and `fullCycles` change with every instruction, memory is
compared byte by byte (`KeepsMemory`), and the state of a platform other than the default changes with every access. K is A and B (R23), U is a bit of A (R24). -/
inductive Part where
  | Q | R | S | X | Y | Z | A | B | V | halted | inputs | ioCount | events | output | res | resetCount
deriving DecidableEq, Repr

/-- The part is in `t` what it was in `s`. -/
def Part.same (p : Part) (s t : State) : Prop :=
  match p with
  | .Q => t.Q = s.Q
  | .R => t.R = s.R
  | .S => t.S = s.S
  | .X => t.X = s.X
  | .Y => t.Y = s.Y
  | .Z => t.Z = s.Z
  | .A => t.A = s.A
  | .B => t.B = s.B
  | .V => t.V = s.V
  | .halted => t.halted = s.halted
  | .inputs => t.platform.inputs = s.platform.inputs
  | .ioCount => t.platform.ioCount = s.platform.ioCount
  | .events => t.platform.events = s.platform.events
  | .output => t.platform.output = s.platform.output
  | .res => t.res = s.res
  | .resetCount => t.resetCount = s.resetCount

/-- Every part but those listed is unchanged. -/
def KeepsBut (written : List Part) (s t : State) : Prop := ∀ p : Part, p ∉ written → p.same s t

/-- Every byte of memory is unchanged. -/
def KeepsMemory (s t : State) : Prop := ∀ a : Word, t.byteAt a = s.byteAt a

/-- Every byte of memory but the one at `addr` is unchanged. -/
def KeepsMemoryBut (addr : Word) (s t : State) : Prop := ∀ a : Word, a ≠ addr → t.byteAt a = s.byteAt a

/-! How an instruction is encoded, runs and ends. -/

/-- These bytes are the instruction's encoding, and whatever follows them they decode to it. -/
def IsEncodedAs (i : Instr) (bytes : List Byte) : Prop :=
  encode i = bytes ∧ ∀ rest : List Byte, decode (bytes ++ rest) = .ok (i, rest)

/-- P is the target modulo 2^16 (R28), `n` full cycles have passed (R457), and the bus has shown the fetch at the new P, the
operand read and the data access (R52), beside cycles whose activity the spec does not state (N9). -/
def Ends (target : Int) (n : Nat) (operand : Option Word) (data : Option DataAccess) (unstated : Nat) (s t : State) :
    Prop :=
  (t.P.toNat : Int) = target % 65536 ∧ t.cycles = s.cycles + n
    ∧ t.bus = { fetch := t.P, operand := operand, data := data, unstated := unstated }

/-- The instruction answers a next state `t` with `post t`; it ends as said; whatever the platform, it reads the operand, if
there is one, then the opcode at the new P, which is prefetched into IR (R34, R55), and nothing else happens to the
platform but in the unstated cycles; nothing but the parts in `written` changes, and no byte of memory; on the default
platform IR is the byte of memory at the new P, and the platform is as it was. -/
def Runs (i : Instr) (target : Int) (n : Nat) (operand : Option Word) (written : List Part)
    (s : State) (post : State → Prop) : Prop :=
  ∃ t, exec i s = .next t ∧ post t ∧ Ends target n operand none (n - 1 - operand.toList.length) s t
    ∧ (t.IR, t.platform) = s.platform.fetchAfter operand (n - 1 - operand.toList.length) t.P
    ∧ KeepsBut written s t ∧ KeepsMemory s t
    ∧ (s.onDefault → t.IR = t.byteAt t.P ∧ t.platform = s.platform)

/-- A one-byte instruction without data access that goes on with the next: its opcode is `op`, it takes `n` cycles. -/
def RunsOneByte (i : Instr) (op : Byte) (n : Nat) (written : List Part) (s : State) (post : State → Prop) : Prop :=
  IsEncodedAs i [op] ∧ Runs i (s.P.toNat + 1) n none written s post

/-- A two-byte instruction that goes on with the next: it reads its operand byte `nn` at P + 1. -/
def RunsTwoBytes (i : Instr) (op nn : Byte) (n : Nat) (written : List Part) (s : State) (post : State → Prop) : Prop :=
  IsEncodedAs i [op, nn] ∧ Runs i (s.P.toNat + 2) n (some (s.P + 1)) written s post

/-- A one-byte instruction that reads a byte through an address register with that register's bus type, in two cycles: the
platform delivers the byte `m` and the following opcode, in FETCH_ORDER (R55, D13), and `post m t` holds; on the default
platform `m` is the byte of memory at the address. -/
def RunsLoad (i : Instr) (op : Byte) (type : BusType) (addr : Word) (written : List Part) (s : State)
    (post : Byte → State → Prop) : Prop :=
  IsEncodedAs i [op] ∧ ∃ m t, exec i s = .next t ∧ post m t
    ∧ Ends (s.P.toNat + 1) 2 none (some { type := type, addr := addr, byte := m }) 0 s t
    ∧ (m, t.IR, t.platform) = s.platform.readAndFetch type addr t.P
    ∧ KeepsBut written s t ∧ KeepsMemory s t
    ∧ (s.onDefault → m = s.byteAt addr ∧ t.IR = t.byteAt t.P ∧ t.platform = s.platform)

/-- A one-byte instruction that writes `v` to the platform at `addr` and fetches the following opcode, in FETCH_ORDER (R55,
D13), and changes nothing else. On the default platform, its memory canonical, the byte at `addr` is then `v` and every
other byte as before; IR is the byte at P + 1, and where the store goes to that address, FETCH_ORDER decides which byte it
is (R62). -/
def RunsStore (i : Instr) (op : Byte) (type : BusType) (addr : Word) (v : Byte) (s : State) : Prop :=
  IsEncodedAs i [op] ∧ ∃ t, exec i s = .next t
    ∧ Ends (s.P.toNat + 1) 2 none (some { type := type, addr := addr, byte := v }) 0 s t
    ∧ (t.IR, t.platform) = s.platform.writeAndFetch type addr v t.P
    ∧ KeepsBut [] s t ∧ KeepsMemoryBut addr s t
    ∧ (s.onDefault → s.platform.mem.wf = true → t.byteAt addr = v
      ∧ t.IR = (if addr = s.P + 1 then
          (match Config.fetchOrder with | .fetchFirst => s.byteAt (s.P + 1) | .dataFirst => v)
        else s.byteAt (s.P + 1)))

/-- A one-byte instruction that fetches the following opcode and then does `signals` to the platform, in as many full
cycles as `cycles` lists (R57, R458); on the default platform IR is the byte of memory at P + 1. -/
def RunsSignals (i : Instr) (op : Byte) (cycles : List (BusType × BusType)) (signals : List PlatformAction)
    (written : List Part) (s : State) (post : State → Prop) : Prop :=
  IsEncodedAs i [op] ∧ ∃ t, exec i s = .next t ∧ post t
    ∧ Ends (s.P.toNat + 1) cycles.length none none 0 s t ∧ t.fullCycles = some cycles
    ∧ t.IR = (s.platform.read .FE t.P).1 ∧ t.platform = (s.platform.read .FE t.P).2.run signals
    ∧ KeepsBut written s t ∧ KeepsMemory s t
    ∧ (s.onDefault → t.IR = t.byteAt t.P)

/-- A two-byte branch: to `target` in three cycles if the condition holds, else to the next instruction in two. -/
def RunsBranch (i : Instr) (op nn : Byte) (taken : Bool) (target : Int) (written : List Part) (s : State)
    (post : State → Prop) : Prop :=
  IsEncodedAs i [op, nn] ∧
    Runs i (if taken then target else s.P.toNat + 2) (if taken then 3 else 2) (some (s.P + 1)) written s post

/-- A one-byte jump to the address in R if the condition holds, else to the next instruction, in one cycle either way. -/
def RunsJumpR (i : Instr) (op : Byte) (taken : Bool) (written : List Part) (s : State) (post : State → Prop) : Prop :=
  IsEncodedAs i [op] ∧ Runs i (if taken then s.R.toNat else s.P.toNat + 1) 1 none written s post

/-! Runs of the machine. -/

/-- The run has ended: the CPU is halted and RES is inactive (R407). -/
def State.terminated (s : State) : Prop := s.halted = true ∧ s.res = none

/-- The CPU executes an instruction in this step: it is not halted and RES is inactive (R402, R407). -/
def State.executes (s : State) : Prop := s.halted = false ∧ s.res = none

/-- This step stores to the byte it also fetches the following opcode from (R62, R453). -/
def State.fetchRace (s : State) : Prop :=
  s.executes ∧ ((s.IR = 0x68 ∧ s.X = s.P + 1) ∨ (s.IR = 0x70 ∧ s.Y = s.P + 1) ∨ (s.IR = 0x78 ∧ s.Z = s.P + 1))

/-- The invariant of the machine: memory is in its canonical form, and a halted CPU has the second `H..` as its last
fetched opcode and has shown K as its last output, which the platform holds (R35, R56, R336). -/
def State.Inv (s : State) : Prop :=
  s.platform.mem.wf = true ∧
    (s.halted = true → s.IR = 0x00 ∧ s.platform.output = some s.K ∧ s.platform.events.getLast? = some (.kOut s.K))

end Sys2Proof.Machine
end

