-- ==== Sys2Proof/Certificates/Slice0/Obligations.lean ====
section
/-! DEFINITION. The statements for the provers: what the rules of spec/ say of the machine, in the terms of Safety.lean. -/

open Sys2Proof Sys2Proof.Machine

/-- O1. One word of every family of the opcode table, its bytes written out from the encodings of the instruction files,
decodes to the instruction it stands for: AN.B, AV. 7f, STMY, AD.Z, ES.Y, TK9, DZ5, IXL 80, NOL 00, B.CN 03, J..,
SW.Z and H... (From 30_encoding.md section on the opcode map, 40_alu8.md table of instructions.) -/
def Obligations.DecodedWordsAreTheInstructions : Prop :=
  decode [0x9d] = .ok (.anB, [])
    ∧ decode [0x62, 0x7f] = .ok (.av 0x7f, [])
    ∧ decode [0x70, 0x11] = .ok (.stmy, [0x11])
    ∧ decode [0xbe] = .ok (.adZ, [])
    ∧ decode [0xb1] = .ok (.esY, [])
    ∧ decode [0x89] = .ok (.tk9, [])
    ∧ decode [0x3d] = .ok (.dz5, [])
    ∧ decode [0x5a, 0x80] = .ok (.ixl 0x80, [])
    ∧ decode [0x57, 0x00] = .ok (.nol 0x00, [])
    ∧ decode [0x53, 0x03] = .ok (.bCN 0x03, [])
    ∧ decode [0xff] = .ok (.j, [])
    ∧ decode [0xba] = .ok (.swZ, [])
    ∧ decode [0x00, 0x00] = .ok (.h, [0x00])

/-- O2. Whatever opcode a byte string starts with, the decoder takes two bytes when 0x40 <= opcode <= 0x67 and one byte
otherwise, whatever the bytes after it; and where the nn of a two-byte opcode is missing the decoder says so by
name. (From 30_encoding.md section on instruction length.) -/
def Obligations.OpcodeAloneDecidesLength : Prop :=
  (∀ (op nn : Byte) (rest : List Byte), ∃ i : Instr, opcode i = op ∧
      decode (op :: nn :: rest) =
        .ok (i, if 0x40 ≤ op.toNat ∧ op.toNat ≤ 0x67 then rest else nn :: rest))
    ∧ (∀ op : Byte, decode [op] =
        if 0x40 ≤ op.toNat ∧ op.toNat ≤ 0x67 then .error (.missingOperand op) else .ok (decodeOp op 0, []))

/-- O3. For every instruction of the opcode table, every value of its operand and whatever bytes follow, decode of its
encoding followed by those bytes is the instruction and those bytes: no bit of an encoding is dropped. (From
30_encoding.md formats F1 and F2, 30_encoding.md opcode map.) -/
def Obligations.DecodeOfEncodeIsTheInstruction : Prop :=
  ∀ (i : Instr) (rest : List Byte), decode (encode i ++ rest) = .ok (i, rest)

/-- O4. Where a byte string decodes to an instruction and a remainder, the encoding of that instruction followed by the
remainder is the byte string, so two byte strings never stand for one instruction; and every string of two or more
bytes decodes, so there is no illegal opcode. (From 30_encoding.md section on illegal encodings (every opcode is
defined).) -/
def Obligations.EncodeOfDecodeIsTheBytes : Prop :=
  (∀ (bytes rest : List Byte) (i : Instr), decode bytes = .ok (i, rest) → encode i ++ rest = bytes)
    ∧ (∀ (op nn : Byte) (rest : List Byte), ∃ (i : Instr) (rest' : List Byte), decode (op :: nn :: rest) = .ok (i, rest'))

/-- O5. AN.B, NR.B and XR.B leave in A the bitwise AND, NOR and exclusive OR of A and B, GT.B copies B into A, ST.B
copies A into B; one byte, one cycle, V unchanged. Each answers a next state in which P, the prefetched opcode, the
cycle count and the bus record are as the rule gives them; every other register, V and every byte of memory are
unchanged. Whatever the platform, it sees just the reads of the instruction and the cycles whose activity the spec
does not state; the default platform is as it was, and there the opcode prefetched is the byte of memory at the new
P. (Rules R100, R101, R102, R106, R107.) -/
def Obligations.LogicAndCopyWithB : Prop :=
  ∀ s : State,
    RunsOneByte .anB 0x9d 1 [.A] s (fun t => t.A = s.A &&& s.B)
    ∧ RunsOneByte .nrB 0x9f 1 [.A] s (fun t => t.A = ~~~(s.A ||| s.B))
    ∧ RunsOneByte .xrB 0x9e 1 [.A] s (fun t => t.A = s.A ^^^ s.B)
    ∧ RunsOneByte .gtB 0x9c 1 [.A] s (fun t => t.A = s.B)
    ∧ RunsOneByte .stB 0x98 1 [.B] s (fun t => t.B = s.A)

/-- O6. AV.B adds B and V to A, AV. nn adds nn and V to A, IV.A adds V to A: new A and, as bit 8, new V together are the
exact sum of the old values. Each answers a next state in which P, the prefetched opcode, the cycle count and the
bus record are as the rule gives them; every other register, V and every byte of memory are unchanged. Whatever the
platform, it sees just the reads of the instruction and the cycles whose activity the spec does not state; the
default platform is as it was, and there the opcode prefetched is the byte of memory at the new P. That the operand
byte is read before the following opcode is fetched, on every platform, is the model's own (DEDUCED, log entry 13):
the spec infers that it is read in the first cycle of the instruction, and says that the source gives no order (N9).
(From 40_alu8.md AV.B, AV., 44_flags_unary.md IV.A, 20_memory.md section on instruction-fetch coherence,
91_not_in_source.md N9.) -/
def Obligations.AdditionWithCarry8 : Prop :=
  ∀ (s : State) (nn : Byte),
    RunsOneByte .avB 0x9a 1 [.A, .V] s (fun t => t.A.toNat + 256 * t.V.toNat = s.A.toNat + s.B.toNat + s.V.toNat)
    ∧ RunsTwoBytes (.av nn) 0x62 nn 2 [.A, .V] s (fun t => t.A.toNat + 256 * t.V.toNat = s.A.toNat + nn.toNat + s.V.toNat)
    ∧ RunsOneByte .ivA 0xf4 1 [.A, .V] s (fun t => t.A.toNat + 256 * t.V.toNat = s.A.toNat + s.V.toNat)

/-- O7. SV.B and SV. nn leave A minus the operand minus V, LV.B and LV. nn the operand minus A minus V, DV.A leaves A
minus V; V receives the borrow, that is, 1 exactly when the exact difference is negative. That V is a borrow is the
decision D5 of the spec, marked as its own choice (log entry 10). Each answers a next state in which P, the
prefetched opcode, the cycle count and the bus record are as the rule gives them; every other register, V and every
byte of memory are unchanged. Whatever the platform, it sees just the reads of the instruction and the cycles whose
activity the spec does not state; the default platform is as it was, and there the opcode prefetched is the byte of
memory at the new P. That the operand byte is read before the following opcode is fetched, on every platform, is the
model's own (DEDUCED, log entry 13): the spec infers that it is read in the first cycle of the instruction, and says
that the source gives no order (N9). (From 40_alu8.md SV.B, LV.B, SV., LV., 44_flags_unary.md DV.A,
92_eei_decisions.md D5, 20_memory.md section on instruction-fetch coherence, 91_not_in_source.md N9.) -/
def Obligations.SubtractionWithBorrow8 : Prop :=
  ∀ (s : State) (nn : Byte),
    RunsOneByte .svB 0x9b 1 [.A, .V] s (fun t => (t.A.toNat : Int) - 256 * t.V.toNat = s.A.toNat - s.B.toNat - s.V.toNat)
    ∧ RunsOneByte .lvB 0x99 1 [.A, .V] s (fun t => (t.A.toNat : Int) - 256 * t.V.toNat = s.B.toNat - s.A.toNat - s.V.toNat)
    ∧ RunsTwoBytes (.sv nn) 0x63 nn 2 [.A, .V] s (fun t => (t.A.toNat : Int) - 256 * t.V.toNat = s.A.toNat - nn.toNat - s.V.toNat)
    ∧ RunsTwoBytes (.lv nn) 0x61 nn 2 [.A, .V] s (fun t => (t.A.toNat : Int) - 256 * t.V.toNat = nn.toNat - s.A.toNat - s.V.toNat)
    ∧ RunsOneByte .dvA 0xf5 1 [.A, .V] s (fun t => (t.A.toNat : Int) - 256 * t.V.toNat = s.A.toNat - s.V.toNat)

/-- O8. AN., NR. and XR. leave in A the bitwise AND, NOR and exclusive OR of A and the immediate nn, GT. copies nn into
A, AD. adds nn to A modulo 256 without V; two bytes, two cycles, nn read at P + 1, V unchanged. Each answers a next
state in which P, the prefetched opcode, the cycle count and the bus record are as the rule gives them; every other
register, V and every byte of memory are unchanged. Whatever the platform, it sees just the reads of the instruction
and the cycles whose activity the spec does not state; the default platform is as it was, and there the opcode
prefetched is the byte of memory at the new P. That the operand byte is read before the following opcode is fetched,
on every platform, is the model's own (DEDUCED, log entry 13): the spec infers that it is read in the first cycle of
the instruction, and says that the source gives no order (N9). (From 40_alu8.md AN., NR., XR., GT., AD.,
20_memory.md section on instruction-fetch coherence, 91_not_in_source.md N9.) -/
def Obligations.LogicCopyAndAddWithImmediate : Prop :=
  ∀ (s : State) (nn : Byte),
    RunsTwoBytes (.an nn) 0x65 nn 2 [.A] s (fun t => t.A = s.A &&& nn)
    ∧ RunsTwoBytes (.nr nn) 0x67 nn 2 [.A] s (fun t => t.A = ~~~(s.A ||| nn))
    ∧ RunsTwoBytes (.xr nn) 0x66 nn 2 [.A] s (fun t => t.A = s.A ^^^ nn)
    ∧ RunsTwoBytes (.gt nn) 0x64 nn 2 [.A] s (fun t => t.A = nn)
    ∧ RunsTwoBytes (.ad nn) 0x60 nn 2 [.A] s (fun t => t.A.toNat = (s.A.toNat + nn.toNat) % 256)

/-- O9. ANM%, NRM% and XRM% leave in A the bitwise AND, NOR and exclusive OR of A and the byte that the platform
delivers for the address in X, Y or Z, GTM% copies that byte into A; the byte is read with the bus type RX, RY or RZ
of the register, in two cycles, before or after the fetch of the following opcode as FETCH_ORDER says (D13), and on
the default platform it is the byte of memory; the address register and V are unchanged. Each answers a next state
in which P, the prefetched opcode, the cycle count and the bus record are as the rule gives them; every other
register, V and every byte of memory are unchanged. Whatever the platform, it sees just the reads of the instruction
and the cycles whose activity the spec does not state; the default platform is as it was, and there the opcode
prefetched is the byte of memory at the new P. The order of the data read and of that fetch is FETCH_ORDER, which
the rules of these instructions do not state: an open parameter of the spec (D13), in the model a free constant
(DESIGN CHOICE of form, log entry 4). (From 41_alu8_memory.md ANM%, NRM%, XRM%, GTM%, 20_memory.md section on
instruction-fetch coherence, 92_eei_decisions.md D13.) -/
def Obligations.LogicAndLoadWithMemory : Prop :=
  ∀ s : State,
    RunsLoad .anmx 0x6d .RX s.X [.A] s (fun m t => t.A = s.A &&& m)
    ∧ RunsLoad .anmy 0x75 .RY s.Y [.A] s (fun m t => t.A = s.A &&& m)
    ∧ RunsLoad .anmz 0x7d .RZ s.Z [.A] s (fun m t => t.A = s.A &&& m)
    ∧ RunsLoad .nrmx 0x6f .RX s.X [.A] s (fun m t => t.A = ~~~(s.A ||| m))
    ∧ RunsLoad .nrmy 0x77 .RY s.Y [.A] s (fun m t => t.A = ~~~(s.A ||| m))
    ∧ RunsLoad .nrmz 0x7f .RZ s.Z [.A] s (fun m t => t.A = ~~~(s.A ||| m))
    ∧ RunsLoad .xrmx 0x6e .RX s.X [.A] s (fun m t => t.A = s.A ^^^ m)
    ∧ RunsLoad .xrmy 0x76 .RY s.Y [.A] s (fun m t => t.A = s.A ^^^ m)
    ∧ RunsLoad .xrmz 0x7e .RZ s.Z [.A] s (fun m t => t.A = s.A ^^^ m)
    ∧ RunsLoad .gtmx 0x6c .RX s.X [.A] s (fun m t => t.A = m)
    ∧ RunsLoad .gtmy 0x74 .RY s.Y [.A] s (fun m t => t.A = m)
    ∧ RunsLoad .gtmz 0x7c .RZ s.Z [.A] s (fun m t => t.A = m)

/-- O10. AVM% adds the byte read at the address in X, Y or Z, on the default platform the byte of memory there, and V to
A: new A and, as bit 8, new V together are the exact sum. Each answers a next state in which P, the prefetched
opcode, the cycle count and the bus record are as the rule gives them; every other register, V and every byte of
memory are unchanged. Whatever the platform, it sees just the reads of the instruction and the cycles whose activity
the spec does not state; the default platform is as it was, and there the opcode prefetched is the byte of memory at
the new P. The order of the data read and of that fetch is FETCH_ORDER, which the rules of these instructions do not
state: an open parameter of the spec (D13), in the model a free constant (DESIGN CHOICE of form, log entry 4). (From
41_alu8_memory.md AVM%, 20_memory.md section on instruction-fetch coherence, 92_eei_decisions.md D13.) -/
def Obligations.AdditionWithCarryFromMemory : Prop :=
  ∀ s : State,
    RunsLoad .avmx 0x6a .RX s.X [.A, .V] s (fun m t => t.A.toNat + 256 * t.V.toNat = s.A.toNat + m.toNat + s.V.toNat)
    ∧ RunsLoad .avmy 0x72 .RY s.Y [.A, .V] s (fun m t => t.A.toNat + 256 * t.V.toNat = s.A.toNat + m.toNat + s.V.toNat)
    ∧ RunsLoad .avmz 0x7a .RZ s.Z [.A, .V] s (fun m t => t.A.toNat + 256 * t.V.toNat = s.A.toNat + m.toNat + s.V.toNat)

/-- O11. SVM% leaves A minus the byte read at the address in X, Y or Z (on the default platform the byte of memory
there) minus V, LVM% that byte minus A minus V; V receives the borrow. That V is a borrow is the decision D5 of the
spec, marked as its own choice (log entry 10). Each answers a next state in which P, the prefetched opcode, the
cycle count and the bus record are as the rule gives them; every other register, V and every byte of memory are
unchanged. Whatever the platform, it sees just the reads of the instruction and the cycles whose activity the spec
does not state; the default platform is as it was, and there the opcode prefetched is the byte of memory at the new
P. The order of the data read and of that fetch is FETCH_ORDER, which the rules of these instructions do not state:
an open parameter of the spec (D13), in the model a free constant (DESIGN CHOICE of form, log entry 4). (From
41_alu8_memory.md SVM%, LVM%, 92_eei_decisions.md D5, 20_memory.md section on instruction-fetch coherence,
92_eei_decisions.md D13.) -/
def Obligations.SubtractionWithBorrowFromMemory : Prop :=
  ∀ s : State,
    RunsLoad .svmx 0x6b .RX s.X [.A, .V] s (fun m t => (t.A.toNat : Int) - 256 * t.V.toNat = s.A.toNat - m.toNat - s.V.toNat)
    ∧ RunsLoad .svmy 0x73 .RY s.Y [.A, .V] s (fun m t => (t.A.toNat : Int) - 256 * t.V.toNat = s.A.toNat - m.toNat - s.V.toNat)
    ∧ RunsLoad .svmz 0x7b .RZ s.Z [.A, .V] s (fun m t => (t.A.toNat : Int) - 256 * t.V.toNat = s.A.toNat - m.toNat - s.V.toNat)
    ∧ RunsLoad .lvmx 0x69 .RX s.X [.A, .V] s (fun m t => (t.A.toNat : Int) - 256 * t.V.toNat = m.toNat - s.A.toNat - s.V.toNat)
    ∧ RunsLoad .lvmy 0x71 .RY s.Y [.A, .V] s (fun m t => (t.A.toNat : Int) - 256 * t.V.toNat = m.toNat - s.A.toNat - s.V.toNat)
    ∧ RunsLoad .lvmz 0x79 .RZ s.Z [.A, .V] s (fun m t => (t.A.toNat : Int) - 256 * t.V.toNat = m.toNat - s.A.toNat - s.V.toNat)

/-- O12. STM% writes A to the platform at the address in X, Y or Z, with the bus type WX, WY or WZ, in two cycles,
before or after the fetch of the following opcode as FETCH_ORDER says; no register but P, no flag and no other byte
of memory changes. On the default platform the byte of memory there is then A. The opcode prefetched meanwhile is
the byte that stood at P + 1, unless the store goes to P + 1: then FETCH_ORDER, an open parameter of the spec (D13)
and a free constant of the model (DESIGN CHOICE of form, log entry 4), decides whether it is that byte or A.
Canonical memory, an invariant of the model, is the premise of what is said of the byte stored. (From
41_alu8_memory.md STM%, 20_memory.md section on instruction-fetch coherence, 92_eei_decisions.md D13.) -/
def Obligations.StoreWritesOneByte : Prop :=
  ∀ s : State,
    RunsStore .stmx 0x68 .WX s.X s.A s
    ∧ RunsStore .stmy 0x70 .WY s.Y s.A s
    ∧ RunsStore .stmz 0x78 .WZ s.Z s.A s

/-- O13. AV.S adds S and V to K: new K and, as bit 16, new V together are the exact sum. A and B are the only other
state it writes; they are the halves of K. Each answers a next state in which P, the prefetched opcode, the cycle
count and the bus record are as the rule gives them; every other register, V and every byte of memory are unchanged.
Whatever the platform, it sees just the reads of the instruction and the cycles whose activity the spec does not
state; the default platform is as it was, and there the opcode prefetched is the byte of memory at the new P. (Rules
R150.) -/
def Obligations.AdditionWithCarry16 : Prop :=
  ∀ s : State,
    RunsOneByte .avS 0xa2 1 [.A, .B, .V] s (fun t => t.K.toNat + 65536 * t.V.toNat = s.K.toNat + s.S.toNat + s.V.toNat)

/-- O14. SV.S leaves K minus S minus V in K, LV.S leaves S minus K minus V; V receives the borrow of the 16-bit
subtraction. That V is a borrow is the decision D5 of the spec, marked as its own choice (log entry 10). Each
answers a next state in which P, the prefetched opcode, the cycle count and the bus record are as the rule gives
them; every other register, V and every byte of memory are unchanged. Whatever the platform, it sees just the reads
of the instruction and the cycles whose activity the spec does not state; the default platform is as it was, and
there the opcode prefetched is the byte of memory at the new P. (From 42_arith16.md SV.S, LV.S, 92_eei_decisions.md
D5.) -/
def Obligations.SubtractionWithBorrow16 : Prop :=
  ∀ s : State,
    RunsOneByte .svS 0xa3 1 [.A, .B, .V] s (fun t => (t.K.toNat : Int) - 65536 * t.V.toNat = s.K.toNat - s.S.toNat - s.V.toNat)
    ∧ RunsOneByte .lvS 0xa1 1 [.A, .B, .V] s (fun t => (t.K.toNat : Int) - 65536 * t.V.toNat = s.S.toNat - s.K.toNat - s.V.toNat)

/-- O15. AD.S, AD.X, AD.Y, AD.Z add the register to K, SD.S, SD.X, SD.Y, SD.Z subtract it from K, LD.S, LD.X, LD.Y, LD.Z
subtract K from it; the result goes to K modulo 65536; V is neither read nor written. Each answers a next state in
which P, the prefetched opcode, the cycle count and the bus record are as the rule gives them; every other register,
V and every byte of memory are unchanged. Whatever the platform, it sees just the reads of the instruction and the
cycles whose activity the spec does not state; the default platform is as it was, and there the opcode prefetched is
the byte of memory at the new P. (Rules R153, R154, R155, R156, R157, R158, R159, R160, R161, R162, R163, R164.) -/
def Obligations.PlainArithmetic16 : Prop :=
  ∀ s : State,
    RunsOneByte .adS 0xa6 1 [.A, .B] s (fun t => t.K.toNat = (s.K.toNat + s.S.toNat) % 65536)
    ∧ RunsOneByte .sdS 0xa7 1 [.A, .B] s (fun t => (t.K.toNat : Int) = ((s.K.toNat : Int) - s.S.toNat) % 65536)
    ∧ RunsOneByte .ldS 0xa5 1 [.A, .B] s (fun t => (t.K.toNat : Int) = ((s.S.toNat : Int) - s.K.toNat) % 65536)
    ∧ RunsOneByte .adX 0xae 1 [.A, .B] s (fun t => t.K.toNat = (s.K.toNat + s.X.toNat) % 65536)
    ∧ RunsOneByte .sdX 0xaf 1 [.A, .B] s (fun t => (t.K.toNat : Int) = ((s.K.toNat : Int) - s.X.toNat) % 65536)
    ∧ RunsOneByte .ldX 0xad 1 [.A, .B] s (fun t => (t.K.toNat : Int) = ((s.X.toNat : Int) - s.K.toNat) % 65536)
    ∧ RunsOneByte .adY 0xb6 1 [.A, .B] s (fun t => t.K.toNat = (s.K.toNat + s.Y.toNat) % 65536)
    ∧ RunsOneByte .sdY 0xb7 1 [.A, .B] s (fun t => (t.K.toNat : Int) = ((s.K.toNat : Int) - s.Y.toNat) % 65536)
    ∧ RunsOneByte .ldY 0xb5 1 [.A, .B] s (fun t => (t.K.toNat : Int) = ((s.Y.toNat : Int) - s.K.toNat) % 65536)
    ∧ RunsOneByte .adZ 0xbe 1 [.A, .B] s (fun t => t.K.toNat = (s.K.toNat + s.Z.toNat) % 65536)
    ∧ RunsOneByte .sdZ 0xbf 1 [.A, .B] s (fun t => (t.K.toNat : Int) = ((s.K.toNat : Int) - s.Z.toNat) % 65536)
    ∧ RunsOneByte .ldZ 0xbd 1 [.A, .B] s (fun t => (t.K.toNat : Int) = ((s.Z.toNat : Int) - s.K.toNat) % 65536)

/-- O16. GT.S, GT.X, GT.Y, GT.Z copy the register into K; ST.S, ST.X, ST.Y, ST.Z copy K into the register; one byte, one
cycle, V unchanged. Each answers a next state in which P, the prefetched opcode, the cycle count and the bus record
are as the rule gives them; every other register, V and every byte of memory are unchanged. Whatever the platform,
it sees just the reads of the instruction and the cycles whose activity the spec does not state; the default
platform is as it was, and there the opcode prefetched is the byte of memory at the new P. (Rules R170, R171, R172,
R173, R174, R175, R176, R177.) -/
def Obligations.TransfersWithK : Prop :=
  ∀ s : State,
    RunsOneByte .gtS 0xa4 1 [.A, .B] s (fun t => t.K = s.S)
    ∧ RunsOneByte .gtX 0xac 1 [.A, .B] s (fun t => t.K = s.X)
    ∧ RunsOneByte .gtY 0xb4 1 [.A, .B] s (fun t => t.K = s.Y)
    ∧ RunsOneByte .gtZ 0xbc 1 [.A, .B] s (fun t => t.K = s.Z)
    ∧ RunsOneByte .stS 0x01 1 [.S] s (fun t => t.S = s.K)
    ∧ RunsOneByte .stX 0x03 1 [.X] s (fun t => t.X = s.K)
    ∧ RunsOneByte .stY 0x05 1 [.Y] s (fun t => t.Y = s.K)
    ∧ RunsOneByte .stZ 0x07 1 [.Z] s (fun t => t.Z = s.K)

/-- O17. RS.X, RS.Y, RS.Z copy the register into S; SS.X, SS.Y, SS.Z copy S into the register. SL.K leaves the old A in
B and 0 in A, both from the old values; SL.S, SL.X, SL.Y, SL.Z leave the zero-extended A in the register; one byte,
one cycle, V unchanged. Each answers a next state in which P, the prefetched opcode, the cycle count and the bus
record are as the rule gives them; every other register, V and every byte of memory are unchanged. Whatever the
platform, it sees just the reads of the instruction and the cycles whose activity the spec does not state; the
default platform is as it was, and there the opcode prefetched is the byte of memory at the new P. (Rules R178,
R179, R180, R181, R182, R183, R184, R185, R186, R187, R188.) -/
def Obligations.TransfersWithSAndZeroExtendingLoadsOfA : Prop :=
  ∀ s : State,
    RunsOneByte .rsX 0xab 1 [.S] s (fun t => t.S = s.X)
    ∧ RunsOneByte .rsY 0xb3 1 [.S] s (fun t => t.S = s.Y)
    ∧ RunsOneByte .rsZ 0xbb 1 [.S] s (fun t => t.S = s.Z)
    ∧ RunsOneByte .ssX 0x02 1 [.X] s (fun t => t.X = s.S)
    ∧ RunsOneByte .ssY 0x04 1 [.Y] s (fun t => t.Y = s.S)
    ∧ RunsOneByte .ssZ 0x06 1 [.Z] s (fun t => t.Z = s.S)
    ∧ RunsOneByte .slK 0xf6 1 [.A, .B] s (fun t => t.B = s.A ∧ t.A = 0)
    ∧ RunsOneByte .slS 0x21 1 [.S] s (fun t => t.S.toNat = s.A.toNat)
    ∧ RunsOneByte .slX 0x23 1 [.X] s (fun t => t.X.toNat = s.A.toNat)
    ∧ RunsOneByte .slY 0x25 1 [.Y] s (fun t => t.Y.toNat = s.A.toNat)
    ∧ RunsOneByte .slZ 0x27 1 [.Z] s (fun t => t.Z.toNat = s.A.toNat)

/-- O18. GL.S, GL.X, GL.Y, GL.Z leave the low byte of the register in A, GH.S, GH.X, GH.Y, GH.Z the high byte; B and V
are unchanged; one byte, one cycle. Each answers a next state in which P, the prefetched opcode, the cycle count and
the bus record are as the rule gives them; every other register, V and every byte of memory are unchanged. Whatever
the platform, it sees just the reads of the instruction and the cycles whose activity the spec does not state; the
default platform is as it was, and there the opcode prefetched is the byte of memory at the new P. (Rules R189,
R190, R191, R192, R193, R194, R195, R196.) -/
def Obligations.ByteSelectors : Prop :=
  ∀ s : State,
    RunsOneByte .glS 0xd1 1 [.A] s (fun t => t.A.toNat = s.S.toNat % 256)
    ∧ RunsOneByte .glX 0xd3 1 [.A] s (fun t => t.A.toNat = s.X.toNat % 256)
    ∧ RunsOneByte .glY 0xd5 1 [.A] s (fun t => t.A.toNat = s.Y.toNat % 256)
    ∧ RunsOneByte .glZ 0xd7 1 [.A] s (fun t => t.A.toNat = s.Z.toNat % 256)
    ∧ RunsOneByte .ghS 0xd0 1 [.A] s (fun t => t.A.toNat = s.S.toNat / 256)
    ∧ RunsOneByte .ghX 0xd2 1 [.A] s (fun t => t.A.toNat = s.X.toNat / 256)
    ∧ RunsOneByte .ghY 0xd4 1 [.A] s (fun t => t.A.toNat = s.Y.toNat / 256)
    ∧ RunsOneByte .ghZ 0xd6 1 [.A] s (fun t => t.A.toNat = s.Z.toNat / 256)

/-- O19. EX.S, EX.X, EX.Y, EX.Z exchange K and the register, ES.X, ES.Y, ES.Z exchange S and the register, both new
values being the old ones; one byte, one cycle, V unchanged. Each answers a next state in which P, the prefetched
opcode, the cycle count and the bus record are as the rule gives them; every other register, V and every byte of
memory are unchanged. Whatever the platform, it sees just the reads of the instruction and the cycles whose activity
the spec does not state; the default platform is as it was, and there the opcode prefetched is the byte of memory at
the new P. (Rules R197, R198, R199, R200, R201, R202, R203.) -/
def Obligations.Exchanges : Prop :=
  ∀ s : State,
    RunsOneByte .exS 0xa0 1 [.A, .B, .S] s (fun t => t.K = s.S ∧ t.S = s.K)
    ∧ RunsOneByte .exX 0xa8 1 [.A, .B, .X] s (fun t => t.K = s.X ∧ t.X = s.K)
    ∧ RunsOneByte .exY 0xb0 1 [.A, .B, .Y] s (fun t => t.K = s.Y ∧ t.Y = s.K)
    ∧ RunsOneByte .exZ 0xb8 1 [.A, .B, .Z] s (fun t => t.K = s.Z ∧ t.Z = s.K)
    ∧ RunsOneByte .esX 0xa9 1 [.S, .X] s (fun t => t.S = s.X ∧ t.X = s.S)
    ∧ RunsOneByte .esY 0xb1 1 [.S, .Y] s (fun t => t.S = s.Y ∧ t.Y = s.S)
    ∧ RunsOneByte .esZ 0xb9 1 [.S, .Z] s (fun t => t.S = s.Z ∧ t.Z = s.S)

/-- O20. ZO.S, ZO.X, ZO.Y, ZO.Z, ZO.A, ZO.B clear the register they name, ZO.K clears A and B; one byte, one cycle, V
unchanged. Each answers a next state in which P, the prefetched opcode, the cycle count and the bus record are as
the rule gives them; every other register, V and every byte of memory are unchanged. Whatever the platform, it sees
just the reads of the instruction and the cycles whose activity the spec does not state; the default platform is as
it was, and there the opcode prefetched is the byte of memory at the new P. (Rules R204, R205, R206, R207, R221,
R222, R223.) -/
def Obligations.Clears : Prop :=
  ∀ s : State,
    RunsOneByte .zoS 0x20 1 [.S] s (fun t => t.S = 0)
    ∧ RunsOneByte .zoX 0x22 1 [.X] s (fun t => t.X = 0)
    ∧ RunsOneByte .zoY 0x24 1 [.Y] s (fun t => t.Y = 0)
    ∧ RunsOneByte .zoZ 0x26 1 [.Z] s (fun t => t.Z = 0)
    ∧ RunsOneByte .zoA 0xf0 1 [.A] s (fun t => t.A = 0)
    ∧ RunsOneByte .zoB 0xf2 1 [.B] s (fun t => t.B = 0)
    ∧ RunsOneByte .zoK 0xfa 1 [.A, .B] s (fun t => t.A = 0 ∧ t.B = 0)

/-- O21. ZO.V clears V, SE.V sets it, NE.V inverts it, CP.V leaves in it the exclusive OR of V and bit 7 of A; one byte,
one cycle; every register is unchanged. Each answers a next state in which P, the prefetched opcode, the cycle count
and the bus record are as the rule gives them; every other register, V and every byte of memory are unchanged.
Whatever the platform, it sees just the reads of the instruction and the cycles whose activity the spec does not
state; the default platform is as it was, and there the opcode prefetched is the byte of memory at the new P. (Rules
R210, R211, R212, R213.) -/
def Obligations.CarryInstructions : Prop :=
  ∀ s : State,
    RunsOneByte .zoV 0xe2 1 [.V] s (fun t => t.V = false)
    ∧ RunsOneByte .seV 0xe3 1 [.V] s (fun t => t.V = true)
    ∧ RunsOneByte .neV 0xe7 1 [.V] s (fun t => t.V = !s.V)
    ∧ RunsOneByte .cpV 0xe6 1 [.V] s (fun t => t.V = (s.V ^^ s.A.getLsbD 7))

/-- O22. ZO.U clears bit 7 of A, SE.U sets it, NE.U inverts it, CP.U leaves in it the exclusive OR of V and itself; bits
6 to 0 of A and V are unchanged; one byte, one cycle. Each answers a next state in which P, the prefetched opcode,
the cycle count and the bus record are as the rule gives them; every other register, V and every byte of memory are
unchanged. Whatever the platform, it sees just the reads of the instruction and the cycles whose activity the spec
does not state; the default platform is as it was, and there the opcode prefetched is the byte of memory at the new
P. (Rules R214, R215, R216, R217.) -/
def Obligations.TopBitOfAInstructions : Prop :=
  ∀ s : State,
    RunsOneByte .zoU 0xe0 1 [.A] s (fun t => t.A.getLsbD 7 = false ∧ ∀ k : Nat, k < 7 → t.A.getLsbD k = s.A.getLsbD k)
    ∧ RunsOneByte .seU 0xe1 1 [.A] s (fun t => t.A.getLsbD 7 = true ∧ ∀ k : Nat, k < 7 → t.A.getLsbD k = s.A.getLsbD k)
    ∧ RunsOneByte .neU 0xe5 1 [.A] s (fun t => t.A.getLsbD 7 = !s.A.getLsbD 7 ∧ ∀ k : Nat, k < 7 → t.A.getLsbD k = s.A.getLsbD k)
    ∧ RunsOneByte .cpU 0xe4 1 [.A] s (fun t => t.A.getLsbD 7 = (s.V ^^ s.A.getLsbD 7) ∧ ∀ k : Nat, k < 7 → t.A.getLsbD k = s.A.getLsbD k)

/-- O23. NE.A inverts every bit of A, NE.B every bit of B, NE.K every bit of both; V is unchanged; one byte, one cycle.
That "wird logisch negiert" is the bitwise complement is the decision D8 of the spec. Each answers a next state in
which P, the prefetched opcode, the cycle count and the bus record are as the rule gives them; every other register,
V and every byte of memory are unchanged. Whatever the platform, it sees just the reads of the instruction and the
cycles whose activity the spec does not state; the default platform is as it was, and there the opcode prefetched is
the byte of memory at the new P. (From 44_flags_unary.md NE.A, NE.B, NE.K, 92_eei_decisions.md D8.) -/
def Obligations.Complements : Prop :=
  ∀ s : State,
    RunsOneByte .neA 0xf1 1 [.A] s (fun t => ∀ k : Nat, k < 8 → t.A.getLsbD k = !s.A.getLsbD k)
    ∧ RunsOneByte .neB 0xf3 1 [.B] s (fun t => ∀ k : Nat, k < 8 → t.B.getLsbD k = !s.B.getLsbD k)
    ∧ RunsOneByte .neK 0xfb 1 [.A, .B] s (fun t => ∀ k : Nat, k < 8 → t.A.getLsbD k = (!s.A.getLsbD k) ∧ t.B.getLsbD k = !s.B.getLsbD k)

/-- O24. IC.A, IC.K, IC.S increment and DC.A, DC.K, DC.S decrement the register modulo 256 or 65536; V is unchanged,
IC.A and DC.A leave B; one byte, one cycle. Each answers a next state in which P, the prefetched opcode, the cycle
count and the bus record are as the rule gives them; every other register, V and every byte of memory are unchanged.
Whatever the platform, it sees just the reads of the instruction and the cycles whose activity the spec does not
state; the default platform is as it was, and there the opcode prefetched is the byte of memory at the new P. (Rules
R226, R227, R228, R229, R230, R231.) -/
def Obligations.CountUpAndDown : Prop :=
  ∀ s : State,
    RunsOneByte .icA 0xfc 1 [.A] s (fun t => t.A.toNat = (s.A.toNat + 1) % 256)
    ∧ RunsOneByte .icK 0xf8 1 [.A, .B] s (fun t => t.K.toNat = (s.K.toNat + 1) % 65536)
    ∧ RunsOneByte .icS 0xd8 1 [.S] s (fun t => t.S.toNat = (s.S.toNat + 1) % 65536)
    ∧ RunsOneByte .dcA 0xfd 1 [.A] s (fun t => (t.A.toNat : Int) = ((s.A.toNat : Int) - 1) % 256)
    ∧ RunsOneByte .dcK 0xf9 1 [.A, .B] s (fun t => (t.K.toNat : Int) = ((s.K.toNat : Int) - 1) % 65536)
    ∧ RunsOneByte .dcS 0xd9 1 [.S] s (fun t => (t.S.toNat : Int) = ((s.S.toNat : Int) - 1) % 65536)

/-- O25. PV.A and PV.B leave the old V in every bit of the byte and clear V; TZ.A and TZ.B set V if the byte is not zero
and leave V as it was if it is zero, the byte itself unchanged; one byte, one cycle. Each answers a next state in
which P, the prefetched opcode, the cycle count and the bus record are as the rule gives them; every other register,
V and every byte of memory are unchanged. Whatever the platform, it sees just the reads of the instruction and the
cycles whose activity the spec does not state; the default platform is as it was, and there the opcode prefetched is
the byte of memory at the new P. (Rules R232, R233, R234, R235.) -/
def Obligations.CarryFillAndZeroTest : Prop :=
  ∀ s : State,
    RunsOneByte .pvA 0xe8 1 [.A, .V] s (fun t => t.V = false ∧ ∀ k : Nat, k < 8 → t.A.getLsbD k = s.V)
    ∧ RunsOneByte .pvB 0xea 1 [.B, .V] s (fun t => t.V = false ∧ ∀ k : Nat, k < 8 → t.B.getLsbD k = s.V)
    ∧ RunsOneByte .tzA 0xe9 1 [.V] s (fun t => t.V = if s.A = 0 then s.V else true)
    ∧ RunsOneByte .tzB 0xeb 1 [.V] s (fun t => t.V = if s.B = 0 then s.V else true)

/-- O26. RD.A and RD.B rotate the byte one place towards bit 0 through V, RU.A and RU.B one place towards bit 7 through
V; TA1 to TA7 rotate A by 1 to 7 places towards bit 7 within its 8 bits, V unchanged; one byte, one cycle. Each
answers a next state in which P, the prefetched opcode, the cycle count and the bus record are as the rule gives
them; every other register, V and every byte of memory are unchanged. Whatever the platform, it sees just the reads
of the instruction and the cycles whose activity the spec does not state; the default platform is as it was, and
there the opcode prefetched is the byte of memory at the new P. (Rules R236, R237, R238, R239, R240.) -/
def Obligations.RotatesOfABit : Prop :=
  ∀ s : State,
    RunsOneByte .rdA 0xec 1 [.A, .V] s (fun t => t.V = s.A.getLsbD 0 ∧ t.A.getLsbD 7 = s.V ∧ ∀ k : Nat, k < 7 → t.A.getLsbD k = s.A.getLsbD (k + 1))
    ∧ RunsOneByte .rdB 0xee 1 [.B, .V] s (fun t => t.V = s.B.getLsbD 0 ∧ t.B.getLsbD 7 = s.V ∧ ∀ k : Nat, k < 7 → t.B.getLsbD k = s.B.getLsbD (k + 1))
    ∧ RunsOneByte .ruA 0xed 1 [.A, .V] s (fun t => t.V = s.A.getLsbD 7 ∧ t.A.getLsbD 0 = s.V ∧ ∀ k : Nat, k < 7 → t.A.getLsbD (k + 1) = s.A.getLsbD k)
    ∧ RunsOneByte .ruB 0xef 1 [.B, .V] s (fun t => t.V = s.B.getLsbD 7 ∧ t.B.getLsbD 0 = s.V ∧ ∀ k : Nat, k < 7 → t.B.getLsbD (k + 1) = s.B.getLsbD k)
    ∧ RunsOneByte .ta1 0x91 1 [.A] s (fun t => ∀ k : Nat, k < 8 → t.A.getLsbD ((k + 1) % 8) = s.A.getLsbD k)
    ∧ RunsOneByte .ta2 0x92 1 [.A] s (fun t => ∀ k : Nat, k < 8 → t.A.getLsbD ((k + 2) % 8) = s.A.getLsbD k)
    ∧ RunsOneByte .ta3 0x93 1 [.A] s (fun t => ∀ k : Nat, k < 8 → t.A.getLsbD ((k + 3) % 8) = s.A.getLsbD k)
    ∧ RunsOneByte .ta4 0x94 1 [.A] s (fun t => ∀ k : Nat, k < 8 → t.A.getLsbD ((k + 4) % 8) = s.A.getLsbD k)
    ∧ RunsOneByte .ta5 0x95 1 [.A] s (fun t => ∀ k : Nat, k < 8 → t.A.getLsbD ((k + 5) % 8) = s.A.getLsbD k)
    ∧ RunsOneByte .ta6 0x96 1 [.A] s (fun t => ∀ k : Nat, k < 8 → t.A.getLsbD ((k + 6) % 8) = s.A.getLsbD k)
    ∧ RunsOneByte .ta7 0x97 1 [.A] s (fun t => ∀ k : Nat, k < 8 → t.A.getLsbD ((k + 7) % 8) = s.A.getLsbD k)

/-- O27. TK1, TK2, ... TKf rotate the 16-bit K by 1 to 15 places towards bit 15; V is unchanged; one byte, one cycle.
The direction and the width are the decision D26 of the spec. Each answers a next state in which P, the prefetched
opcode, the cycle count and the bus record are as the rule gives them; every other register, V and every byte of
memory are unchanged. Whatever the platform, it sees just the reads of the instruction and the cycles whose activity
the spec does not state; the default platform is as it was, and there the opcode prefetched is the byte of memory at
the new P. (From 44_flags_unary.md TKs, 92_eei_decisions.md D26.) -/
def Obligations.RotatesOfK : Prop :=
  ∀ s : State,
    RunsOneByte .tk1 0x81 1 [.A, .B] s (fun t => ∀ k : Nat, k < 16 → t.K.getLsbD ((k + 1) % 16) = s.K.getLsbD k)
    ∧ RunsOneByte .tk2 0x82 1 [.A, .B] s (fun t => ∀ k : Nat, k < 16 → t.K.getLsbD ((k + 2) % 16) = s.K.getLsbD k)
    ∧ RunsOneByte .tk3 0x83 1 [.A, .B] s (fun t => ∀ k : Nat, k < 16 → t.K.getLsbD ((k + 3) % 16) = s.K.getLsbD k)
    ∧ RunsOneByte .tk4 0x84 1 [.A, .B] s (fun t => ∀ k : Nat, k < 16 → t.K.getLsbD ((k + 4) % 16) = s.K.getLsbD k)
    ∧ RunsOneByte .tk5 0x85 1 [.A, .B] s (fun t => ∀ k : Nat, k < 16 → t.K.getLsbD ((k + 5) % 16) = s.K.getLsbD k)
    ∧ RunsOneByte .tk6 0x86 1 [.A, .B] s (fun t => ∀ k : Nat, k < 16 → t.K.getLsbD ((k + 6) % 16) = s.K.getLsbD k)
    ∧ RunsOneByte .tk7 0x87 1 [.A, .B] s (fun t => ∀ k : Nat, k < 16 → t.K.getLsbD ((k + 7) % 16) = s.K.getLsbD k)
    ∧ RunsOneByte .tk8 0x88 1 [.A, .B] s (fun t => ∀ k : Nat, k < 16 → t.K.getLsbD ((k + 8) % 16) = s.K.getLsbD k)
    ∧ RunsOneByte .tk9 0x89 1 [.A, .B] s (fun t => ∀ k : Nat, k < 16 → t.K.getLsbD ((k + 9) % 16) = s.K.getLsbD k)
    ∧ RunsOneByte .tka 0x8a 1 [.A, .B] s (fun t => ∀ k : Nat, k < 16 → t.K.getLsbD ((k + 10) % 16) = s.K.getLsbD k)
    ∧ RunsOneByte .tkb 0x8b 1 [.A, .B] s (fun t => ∀ k : Nat, k < 16 → t.K.getLsbD ((k + 11) % 16) = s.K.getLsbD k)
    ∧ RunsOneByte .tkc 0x8c 1 [.A, .B] s (fun t => ∀ k : Nat, k < 16 → t.K.getLsbD ((k + 12) % 16) = s.K.getLsbD k)
    ∧ RunsOneByte .tkd 0x8d 1 [.A, .B] s (fun t => ∀ k : Nat, k < 16 → t.K.getLsbD ((k + 13) % 16) = s.K.getLsbD k)
    ∧ RunsOneByte .tke 0x8e 1 [.A, .B] s (fun t => ∀ k : Nat, k < 16 → t.K.getLsbD ((k + 14) % 16) = s.K.getLsbD k)
    ∧ RunsOneByte .tkf 0x8f 1 [.A, .B] s (fun t => ∀ k : Nat, k < 16 → t.K.getLsbD ((k + 15) % 16) = s.K.getLsbD k)

/-- O28. IX0 to IX7, IY0 to IY7, IZ0 to IZ7 add s + 1 to the register, DX0 to DX7, DY0 to DY7, DZ0 to DZ7 subtract s + 1
from it, modulo 65536, s the digit of the mnemonic; V is unchanged; one byte, one cycle. Each answers a next state
in which P, the prefetched opcode, the cycle count and the bus record are as the rule gives them; every other
register, V and every byte of memory are unchanged. Whatever the platform, it sees just the reads of the instruction
and the cycles whose activity the spec does not state; the default platform is as it was, and there the opcode
prefetched is the byte of memory at the new P. (Rules R250, R251, R252, R253, R254, R255.) -/
def Obligations.StepsOfAddressRegisters : Prop :=
  ∀ s : State,
    RunsOneByte .ix0 0x08 1 [.X] s (fun t => t.X.toNat = (s.X.toNat + 1) % 65536)
    ∧ RunsOneByte .ix1 0x09 1 [.X] s (fun t => t.X.toNat = (s.X.toNat + 2) % 65536)
    ∧ RunsOneByte .ix2 0x0a 1 [.X] s (fun t => t.X.toNat = (s.X.toNat + 3) % 65536)
    ∧ RunsOneByte .ix3 0x0b 1 [.X] s (fun t => t.X.toNat = (s.X.toNat + 4) % 65536)
    ∧ RunsOneByte .ix4 0x0c 1 [.X] s (fun t => t.X.toNat = (s.X.toNat + 5) % 65536)
    ∧ RunsOneByte .ix5 0x0d 1 [.X] s (fun t => t.X.toNat = (s.X.toNat + 6) % 65536)
    ∧ RunsOneByte .ix6 0x0e 1 [.X] s (fun t => t.X.toNat = (s.X.toNat + 7) % 65536)
    ∧ RunsOneByte .ix7 0x0f 1 [.X] s (fun t => t.X.toNat = (s.X.toNat + 8) % 65536)
    ∧ RunsOneByte .iy0 0x10 1 [.Y] s (fun t => t.Y.toNat = (s.Y.toNat + 1) % 65536)
    ∧ RunsOneByte .iy1 0x11 1 [.Y] s (fun t => t.Y.toNat = (s.Y.toNat + 2) % 65536)
    ∧ RunsOneByte .iy2 0x12 1 [.Y] s (fun t => t.Y.toNat = (s.Y.toNat + 3) % 65536)
    ∧ RunsOneByte .iy3 0x13 1 [.Y] s (fun t => t.Y.toNat = (s.Y.toNat + 4) % 65536)
    ∧ RunsOneByte .iy4 0x14 1 [.Y] s (fun t => t.Y.toNat = (s.Y.toNat + 5) % 65536)
    ∧ RunsOneByte .iy5 0x15 1 [.Y] s (fun t => t.Y.toNat = (s.Y.toNat + 6) % 65536)
    ∧ RunsOneByte .iy6 0x16 1 [.Y] s (fun t => t.Y.toNat = (s.Y.toNat + 7) % 65536)
    ∧ RunsOneByte .iy7 0x17 1 [.Y] s (fun t => t.Y.toNat = (s.Y.toNat + 8) % 65536)
    ∧ RunsOneByte .iz0 0x18 1 [.Z] s (fun t => t.Z.toNat = (s.Z.toNat + 1) % 65536)
    ∧ RunsOneByte .iz1 0x19 1 [.Z] s (fun t => t.Z.toNat = (s.Z.toNat + 2) % 65536)
    ∧ RunsOneByte .iz2 0x1a 1 [.Z] s (fun t => t.Z.toNat = (s.Z.toNat + 3) % 65536)
    ∧ RunsOneByte .iz3 0x1b 1 [.Z] s (fun t => t.Z.toNat = (s.Z.toNat + 4) % 65536)
    ∧ RunsOneByte .iz4 0x1c 1 [.Z] s (fun t => t.Z.toNat = (s.Z.toNat + 5) % 65536)
    ∧ RunsOneByte .iz5 0x1d 1 [.Z] s (fun t => t.Z.toNat = (s.Z.toNat + 6) % 65536)
    ∧ RunsOneByte .iz6 0x1e 1 [.Z] s (fun t => t.Z.toNat = (s.Z.toNat + 7) % 65536)
    ∧ RunsOneByte .iz7 0x1f 1 [.Z] s (fun t => t.Z.toNat = (s.Z.toNat + 8) % 65536)
    ∧ RunsOneByte .dx0 0x28 1 [.X] s (fun t => (t.X.toNat : Int) = ((s.X.toNat : Int) - 1) % 65536)
    ∧ RunsOneByte .dx1 0x29 1 [.X] s (fun t => (t.X.toNat : Int) = ((s.X.toNat : Int) - 2) % 65536)
    ∧ RunsOneByte .dx2 0x2a 1 [.X] s (fun t => (t.X.toNat : Int) = ((s.X.toNat : Int) - 3) % 65536)
    ∧ RunsOneByte .dx3 0x2b 1 [.X] s (fun t => (t.X.toNat : Int) = ((s.X.toNat : Int) - 4) % 65536)
    ∧ RunsOneByte .dx4 0x2c 1 [.X] s (fun t => (t.X.toNat : Int) = ((s.X.toNat : Int) - 5) % 65536)
    ∧ RunsOneByte .dx5 0x2d 1 [.X] s (fun t => (t.X.toNat : Int) = ((s.X.toNat : Int) - 6) % 65536)
    ∧ RunsOneByte .dx6 0x2e 1 [.X] s (fun t => (t.X.toNat : Int) = ((s.X.toNat : Int) - 7) % 65536)
    ∧ RunsOneByte .dx7 0x2f 1 [.X] s (fun t => (t.X.toNat : Int) = ((s.X.toNat : Int) - 8) % 65536)
    ∧ RunsOneByte .dy0 0x30 1 [.Y] s (fun t => (t.Y.toNat : Int) = ((s.Y.toNat : Int) - 1) % 65536)
    ∧ RunsOneByte .dy1 0x31 1 [.Y] s (fun t => (t.Y.toNat : Int) = ((s.Y.toNat : Int) - 2) % 65536)
    ∧ RunsOneByte .dy2 0x32 1 [.Y] s (fun t => (t.Y.toNat : Int) = ((s.Y.toNat : Int) - 3) % 65536)
    ∧ RunsOneByte .dy3 0x33 1 [.Y] s (fun t => (t.Y.toNat : Int) = ((s.Y.toNat : Int) - 4) % 65536)
    ∧ RunsOneByte .dy4 0x34 1 [.Y] s (fun t => (t.Y.toNat : Int) = ((s.Y.toNat : Int) - 5) % 65536)
    ∧ RunsOneByte .dy5 0x35 1 [.Y] s (fun t => (t.Y.toNat : Int) = ((s.Y.toNat : Int) - 6) % 65536)
    ∧ RunsOneByte .dy6 0x36 1 [.Y] s (fun t => (t.Y.toNat : Int) = ((s.Y.toNat : Int) - 7) % 65536)
    ∧ RunsOneByte .dy7 0x37 1 [.Y] s (fun t => (t.Y.toNat : Int) = ((s.Y.toNat : Int) - 8) % 65536)
    ∧ RunsOneByte .dz0 0x38 1 [.Z] s (fun t => (t.Z.toNat : Int) = ((s.Z.toNat : Int) - 1) % 65536)
    ∧ RunsOneByte .dz1 0x39 1 [.Z] s (fun t => (t.Z.toNat : Int) = ((s.Z.toNat : Int) - 2) % 65536)
    ∧ RunsOneByte .dz2 0x3a 1 [.Z] s (fun t => (t.Z.toNat : Int) = ((s.Z.toNat : Int) - 3) % 65536)
    ∧ RunsOneByte .dz3 0x3b 1 [.Z] s (fun t => (t.Z.toNat : Int) = ((s.Z.toNat : Int) - 4) % 65536)
    ∧ RunsOneByte .dz4 0x3c 1 [.Z] s (fun t => (t.Z.toNat : Int) = ((s.Z.toNat : Int) - 5) % 65536)
    ∧ RunsOneByte .dz5 0x3d 1 [.Z] s (fun t => (t.Z.toNat : Int) = ((s.Z.toNat : Int) - 6) % 65536)
    ∧ RunsOneByte .dz6 0x3e 1 [.Z] s (fun t => (t.Z.toNat : Int) = ((s.Z.toNat : Int) - 7) % 65536)
    ∧ RunsOneByte .dz7 0x3f 1 [.Z] s (fun t => (t.Z.toNat : Int) = ((s.Z.toNat : Int) - 8) % 65536)

/-- O29. IXE, IYE, IZE increment and DXE, DYE, DZE decrement the register modulo 65536 and exchange A and B, all from
the old values; V is unchanged; one byte, one cycle. Each answers a next state in which P, the prefetched opcode,
the cycle count and the bus record are as the rule gives them; every other register, V and every byte of memory are
unchanged. Whatever the platform, it sees just the reads of the instruction and the cycles whose activity the spec
does not state; the default platform is as it was, and there the opcode prefetched is the byte of memory at the new
P. (Rules R256, R257, R258, R259, R260, R261.) -/
def Obligations.StepsWithExchangeOfAAndB : Prop :=
  ∀ s : State,
    RunsOneByte .ixe 0xda 1 [.A, .B, .X] s (fun t => t.X.toNat = (s.X.toNat + 1) % 65536 ∧ t.A = s.B ∧ t.B = s.A)
    ∧ RunsOneByte .iye 0xdc 1 [.A, .B, .Y] s (fun t => t.Y.toNat = (s.Y.toNat + 1) % 65536 ∧ t.A = s.B ∧ t.B = s.A)
    ∧ RunsOneByte .ize 0xde 1 [.A, .B, .Z] s (fun t => t.Z.toNat = (s.Z.toNat + 1) % 65536 ∧ t.A = s.B ∧ t.B = s.A)
    ∧ RunsOneByte .dxe 0xdb 1 [.A, .B, .X] s (fun t => (t.X.toNat : Int) = ((s.X.toNat : Int) - 1) % 65536 ∧ t.A = s.B ∧ t.B = s.A)
    ∧ RunsOneByte .dye 0xdd 1 [.A, .B, .Y] s (fun t => (t.Y.toNat : Int) = ((s.Y.toNat : Int) - 1) % 65536 ∧ t.A = s.B ∧ t.B = s.A)
    ∧ RunsOneByte .dze 0xdf 1 [.A, .B, .Z] s (fun t => (t.Z.toNat : Int) = ((s.Z.toNat : Int) - 1) % 65536 ∧ t.A = s.B ∧ t.B = s.A)

/-- O30. IKL, IXL, IYL, IZL add nn + 1 to K, X, Y or Z, DKL, DXL, DYL, DZL subtract nn + 1, modulo 65536, nn unsigned; V
is unchanged; two bytes, two cycles. Each answers a next state in which P, the prefetched opcode, the cycle count
and the bus record are as the rule gives them; every other register, V and every byte of memory are unchanged.
Whatever the platform, it sees just the reads of the instruction and the cycles whose activity the spec does not
state; the default platform is as it was, and there the opcode prefetched is the byte of memory at the new P. That
the operand byte is read before the following opcode is fetched, on every platform, is the model's own (DEDUCED, log
entry 13): the spec infers that it is read in the first cycle of the instruction, and says that the source gives no
order (N9). (From 45_incdec.md IKL to DZL, 20_memory.md section on instruction-fetch coherence, 91_not_in_source.md
N9.) -/
def Obligations.LongSteps : Prop :=
  ∀ (s : State) (nn : Byte),
    RunsTwoBytes (.ikl nn) 0x58 nn 2 [.A, .B] s (fun t => t.K.toNat = (s.K.toNat + nn.toNat + 1) % 65536)
    ∧ RunsTwoBytes (.ixl nn) 0x5a nn 2 [.X] s (fun t => t.X.toNat = (s.X.toNat + nn.toNat + 1) % 65536)
    ∧ RunsTwoBytes (.iyl nn) 0x5c nn 2 [.Y] s (fun t => t.Y.toNat = (s.Y.toNat + nn.toNat + 1) % 65536)
    ∧ RunsTwoBytes (.izl nn) 0x5e nn 2 [.Z] s (fun t => t.Z.toNat = (s.Z.toNat + nn.toNat + 1) % 65536)
    ∧ RunsTwoBytes (.dkl nn) 0x59 nn 2 [.A, .B] s (fun t => (t.K.toNat : Int) = ((s.K.toNat : Int) - nn.toNat - 1) % 65536)
    ∧ RunsTwoBytes (.dxl nn) 0x5b nn 2 [.X] s (fun t => (t.X.toNat : Int) = ((s.X.toNat : Int) - nn.toNat - 1) % 65536)
    ∧ RunsTwoBytes (.dyl nn) 0x5d nn 2 [.Y] s (fun t => (t.Y.toNat : Int) = ((s.Y.toNat : Int) - nn.toNat - 1) % 65536)
    ∧ RunsTwoBytes (.dzl nn) 0x5f nn 2 [.Z] s (fun t => (t.Z.toNat : Int) = ((s.Z.toNat : Int) - nn.toNat - 1) % 65536)

/-- O31. GTA clears A and leaves nn in B; GTR leaves in K the address of its own opcode plus nn plus 3; ADR adds that
address to K; modulo 65536, V unchanged; two bytes, two cycles. Each answers a next state in which P, the prefetched
opcode, the cycle count and the bus record are as the rule gives them; every other register, V and every byte of
memory are unchanged. Whatever the platform, it sees just the reads of the instruction and the cycles whose activity
the spec does not state; the default platform is as it was, and there the opcode prefetched is the byte of memory at
the new P. That the operand byte is read before the following opcode is fetched, on every platform, is the model's
own (DEDUCED, log entry 13): the spec infers that it is read in the first cycle of the instruction, and says that
the source gives no order (N9). (From 46_addr_nop_link.md GTA, GTR, ADR, 20_memory.md section on instruction-fetch
coherence, 91_not_in_source.md N9.) -/
def Obligations.AddressConstants : Prop :=
  ∀ (s : State) (nn : Byte),
    RunsTwoBytes (.gta nn) 0x56 nn 2 [.A, .B] s (fun t => t.A = 0 ∧ t.B = nn)
    ∧ RunsTwoBytes (.gtr nn) 0x54 nn 2 [.A, .B] s (fun t => t.K.toNat = (s.P.toNat + nn.toNat + 3) % 65536)
    ∧ RunsTwoBytes (.adr nn) 0x55 nn 2 [.A, .B] s (fun t => t.K.toNat = (s.K.toNat + s.P.toNat + nn.toNat + 3) % 65536)

/-- O32. NOL nn with nn > 0 changes nothing but P, in 2 + nn cycles (that it changes nothing else is the decision D21 of
the spec); NOL 00 copies R into K in two cycles. Each answers a next state in which P, the prefetched opcode, the
cycle count and the bus record are as the rule gives them; every other register, V and every byte of memory are
unchanged. Whatever the platform, it sees just the reads of the instruction and the cycles whose activity the spec
does not state; the default platform is as it was, and there the opcode prefetched is the byte of memory at the new
P. That the operand byte is read before the following opcode is fetched, on every platform, is the model's own
(DEDUCED, log entry 13): the spec infers that it is read in the first cycle of the instruction, and says that the
source gives no order (N9). What the cycles of unstated activity do to a platform other than the default is a free
function, the model's form of what the spec leaves open (N9, log entry 7). (From 46_addr_nop_link.md NOL,
92_eei_decisions.md D21, 20_memory.md section on instruction-fetch coherence, 91_not_in_source.md N9.) -/
def Obligations.LongNoOperation : Prop :=
  (∀ (s : State) (nn : Byte), nn ≠ 0 →
      RunsTwoBytes (.nol nn) 0x57 nn (2 + nn.toNat) [] s (fun _ => True))
    ∧ (∀ s : State, RunsTwoBytes (.nol 0) 0x57 0 2 [.A, .B] s (fun t => t.K = s.R))

/-- O33. GT.Q copies Q into K; S.RP leaves P + 1 in R; O.RP nn leaves P + 2 in R and goes to P + nn + 3, always, in
three cycles; modulo 65536, V unchanged. NO1 and NO2 change no register, flag or byte of memory; NO1 takes one
cycle, NO2 two. Each answers a next state in which P, the prefetched opcode, the cycle count and the bus record are
as the rule gives them; every other register, V and every byte of memory are unchanged. Whatever the platform, it
sees just the reads of the instruction and the cycles whose activity the spec does not state; the default platform
is as it was, and there the opcode prefetched is the byte of memory at the new P. That the operand byte is read
before the following opcode is fetched, on every platform, is the model's own (DEDUCED, log entry 13): the spec
infers that it is read in the first cycle of the instruction, and says that the source gives no order (N9). What the
cycles of unstated activity do to a platform other than the default is a free function, the model's form of what the
spec leaves open (N9, log entry 7). (From 46_addr_nop_link.md GT.Q, S.RP, NO1, NO2, 47_control.md O.RP, 20_memory.md
section on instruction-fetch coherence, 91_not_in_source.md N9.) -/
def Obligations.LinkRegistersAndNoOperations : Prop :=
  ∀ (s : State) (nn : Byte),
    RunsOneByte .gtQ 0xfe 1 [.A, .B] s (fun t => t.K = s.Q)
    ∧ RunsOneByte .sRP 0xf7 1 [.R] s (fun t => t.R.toNat = (s.P.toNat + 1) % 65536)
    ∧ RunsBranch (.oRP nn) 0x51 nn true (s.P.toNat + nn.toNat + 3) [.R] s (fun t => t.R.toNat = (s.P.toNat + 2) % 65536)
    ∧ RunsOneByte .no1 0x90 1 [] s (fun _ => True)
    ∧ RunsOneByte .no2 0x80 2 [] s (fun _ => True)

/-- O34. O.cc goes to P + nn + 3 modulo 65536 in three cycles if the condition holds of the registers before the
instruction, else to P + 2 in two cycles; WY always holds, UZ and US test bit 7 of A, AZ and AS test A, KZ and KS
test A and B together; no register but P and no flag changes. Each answers a next state in which P, the prefetched
opcode, the cycle count and the bus record are as the rule gives them; every other register, V and every byte of
memory are unchanged. Whatever the platform, it sees just the reads of the instruction and the cycles whose activity
the spec does not state; the default platform is as it was, and there the opcode prefetched is the byte of memory at
the new P. That the operand byte is read before the following opcode is fetched, on every platform, is the model's
own (DEDUCED, log entry 13): the spec infers that it is read in the first cycle of the instruction, and says that
the source gives no order (N9). What the cycles of unstated activity do to a platform other than the default is a
free function, the model's form of what the spec leaves open (N9, log entry 7). (From 47_control.md forward branches
O.cc, 20_memory.md section on instruction-fetch coherence, 91_not_in_source.md N9.) -/
def Obligations.ForwardBranches : Prop :=
  ∀ (s : State) (nn : Byte),
    RunsBranch (.oWY nn) 0x50 nn true (s.P.toNat + nn.toNat + 3) [] s (fun _ => True)
    ∧ RunsBranch (.oUZ nn) 0x44 nn (!s.A.getLsbD 7) (s.P.toNat + nn.toNat + 3) [] s (fun _ => True)
    ∧ RunsBranch (.oUS nn) 0x45 nn (s.A.getLsbD 7) (s.P.toNat + nn.toNat + 3) [] s (fun _ => True)
    ∧ RunsBranch (.oAZ nn) 0x48 nn (s.A == 0) (s.P.toNat + nn.toNat + 3) [] s (fun _ => True)
    ∧ RunsBranch (.oAS nn) 0x49 nn (s.A != 0) (s.P.toNat + nn.toNat + 3) [] s (fun _ => True)
    ∧ RunsBranch (.oKZ nn) 0x4c nn (s.A == 0 && s.B == 0) (s.P.toNat + nn.toNat + 3) [] s (fun _ => True)
    ∧ RunsBranch (.oKS nn) 0x4d nn (s.A != 0 || s.B != 0) (s.P.toNat + nn.toNat + 3) [] s (fun _ => True)

/-- O35. B.cc goes to P - nn - 1 modulo 65536 in three cycles if the condition holds of the registers before the
instruction, else to P + 2 in two cycles; the conditions are those of the forward branches; no register but P and no
flag changes. Each answers a next state in which P, the prefetched opcode, the cycle count and the bus record are as
the rule gives them; every other register, V and every byte of memory are unchanged. Whatever the platform, it sees
just the reads of the instruction and the cycles whose activity the spec does not state; the default platform is as
it was, and there the opcode prefetched is the byte of memory at the new P. That the operand byte is read before the
following opcode is fetched, on every platform, is the model's own (DEDUCED, log entry 13): the spec infers that it
is read in the first cycle of the instruction, and says that the source gives no order (N9). What the cycles of
unstated activity do to a platform other than the default is a free function, the model's form of what the spec
leaves open (N9, log entry 7). (From 47_control.md backward branches B.cc, 20_memory.md section on instruction-fetch
coherence, 91_not_in_source.md N9.) -/
def Obligations.BackwardBranches : Prop :=
  ∀ (s : State) (nn : Byte),
    RunsBranch (.bWY nn) 0x52 nn true (s.P.toNat - nn.toNat - 1) [] s (fun _ => True)
    ∧ RunsBranch (.bUZ nn) 0x46 nn (!s.A.getLsbD 7) (s.P.toNat - nn.toNat - 1) [] s (fun _ => True)
    ∧ RunsBranch (.bUS nn) 0x47 nn (s.A.getLsbD 7) (s.P.toNat - nn.toNat - 1) [] s (fun _ => True)
    ∧ RunsBranch (.bAZ nn) 0x4a nn (s.A == 0) (s.P.toNat - nn.toNat - 1) [] s (fun _ => True)
    ∧ RunsBranch (.bAS nn) 0x4b nn (s.A != 0) (s.P.toNat - nn.toNat - 1) [] s (fun _ => True)
    ∧ RunsBranch (.bKZ nn) 0x4e nn (s.A == 0 && s.B == 0) (s.P.toNat - nn.toNat - 1) [] s (fun _ => True)
    ∧ RunsBranch (.bKS nn) 0x4f nn (s.A != 0 || s.B != 0) (s.P.toNat - nn.toNat - 1) [] s (fun _ => True)

/-- O36. R.cc goes to the address in R if the condition holds of the registers before the instruction, else to P + 1;
one cycle either way; no register but P and no flag changes. Each answers a next state in which P, the prefetched
opcode, the cycle count and the bus record are as the rule gives them; every other register, V and every byte of
memory are unchanged. Whatever the platform, it sees just the reads of the instruction and the cycles whose activity
the spec does not state; the default platform is as it was, and there the opcode prefetched is the byte of memory at
the new P. (Rules R312, R315, R316, R317, R318, R319, R320.) -/
def Obligations.JumpsToR : Prop :=
  ∀ s : State,
    RunsJumpR .rWY 0xc8 true [] s (fun _ => True)
    ∧ RunsJumpR .rUZ 0xc2 (!s.A.getLsbD 7) [] s (fun _ => True)
    ∧ RunsJumpR .rUS 0xc3 (s.A.getLsbD 7) [] s (fun _ => True)
    ∧ RunsJumpR .rAZ 0xc4 (s.A == 0) [] s (fun _ => True)
    ∧ RunsJumpR .rAS 0xc5 (s.A != 0) [] s (fun _ => True)
    ∧ RunsJumpR .rKZ 0xc6 (s.A == 0 && s.B == 0) [] s (fun _ => True)
    ∧ RunsJumpR .rKS 0xc7 (s.A != 0 || s.B != 0) [] s (fun _ => True)

/-- O37. The six branches that test V evaluate the condition with the old V and leave V clear whether or not they are
taken (the decision D9 of the spec); targets, cycles and the not taken case as for the other branches; no other
state changes. Each answers a next state in which P, the prefetched opcode, the cycle count and the bus record are
as the rule gives them; every other register, V and every byte of memory are unchanged. Whatever the platform, it
sees just the reads of the instruction and the cycles whose activity the spec does not state; the default platform
is as it was, and there the opcode prefetched is the byte of memory at the new P. That the operand byte is read
before the following opcode is fetched, on every platform, is the model's own (DEDUCED, log entry 13): the spec
infers that it is read in the first cycle of the instruction, and says that the source gives no order (N9). What the
cycles of unstated activity do to a platform other than the default is a free function, the model's form of what the
spec leaves open (N9, log entry 7). (From 47_control.md common rules of the O., B. and R. instructions,
92_eei_decisions.md D9, 20_memory.md section on instruction-fetch coherence, 91_not_in_source.md N9.) -/
def Obligations.CarryBranchesClearTheCarry : Prop :=
  ∀ (s : State) (nn : Byte),
    RunsBranch (.oVZ nn) 0x40 nn (!s.V) (s.P.toNat + nn.toNat + 3) [.V] s (fun t => t.V = false)
    ∧ RunsBranch (.oVS nn) 0x41 nn s.V (s.P.toNat + nn.toNat + 3) [.V] s (fun t => t.V = false)
    ∧ RunsBranch (.bVZ nn) 0x42 nn (!s.V) (s.P.toNat - nn.toNat - 1) [.V] s (fun t => t.V = false)
    ∧ RunsBranch (.bVS nn) 0x43 nn s.V (s.P.toNat - nn.toNat - 1) [.V] s (fun t => t.V = false)
    ∧ RunsJumpR .rVZ 0xc0 (!s.V) [.V] s (fun t => t.V = false)
    ∧ RunsJumpR .rVS 0xc1 s.V [.V] s (fun t => t.V = false)

/-- O38. B.CN nn and R.CN: if S is not zero, S is decremented and P goes to P - nn - 1 (three cycles) or to R; if S is
zero, S stays zero and P goes to the next instruction (two cycles for B.CN); no other state changes. Each answers a
next state in which P, the prefetched opcode, the cycle count and the bus record are as the rule gives them; every
other register, V and every byte of memory are unchanged. Whatever the platform, it sees just the reads of the
instruction and the cycles whose activity the spec does not state; the default platform is as it was, and there the
opcode prefetched is the byte of memory at the new P. That the operand byte is read before the following opcode is
fetched, on every platform, is the model's own (DEDUCED, log entry 13): the spec infers that it is read in the first
cycle of the instruction, and says that the source gives no order (N9). What the cycles of unstated activity do to a
platform other than the default is a free function, the model's form of what the spec leaves open (N9, log entry 7).
(From 47_control.md B.CN, R.CN, 20_memory.md section on instruction-fetch coherence, 91_not_in_source.md N9.) -/
def Obligations.CountingLoops : Prop :=
  ∀ (s : State) (nn : Byte),
    RunsBranch (.bCN nn) 0x53 nn (s.S != 0) (s.P.toNat - nn.toNat - 1) [.S] s (fun t => t.S.toNat = s.S.toNat - 1)
    ∧ RunsJumpR .rCN 0xc9 (s.S != 0) [.S] s (fun t => t.S.toNat = s.S.toNat - 1)

/-- O39. R.IX, R.IY, R.IZ, R.DX, R.DY, R.DZ: if S is not zero, S is decremented, X, Y or Z is incremented or decremented
modulo 65536 and P gets R; if S is zero, P gets P + 1 and nothing else changes (that the register is not stepped
then is the decision D11 of the spec); one cycle either way. Each answers a next state in which P, the prefetched
opcode, the cycle count and the bus record are as the rule gives them; every other register, V and every byte of
memory are unchanged. Whatever the platform, it sees just the reads of the instruction and the cycles whose activity
the spec does not state; the default platform is as it was, and there the opcode prefetched is the byte of memory at
the new P. (From 47_control.md R.I% and R.D%, 92_eei_decisions.md D11.) -/
def Obligations.CountingLoopsWithPointerStep : Prop :=
  ∀ s : State,
    RunsJumpR .rIX 0xca (s.S != 0) [.S, .X] s (fun t => if s.S = 0 then t.S = s.S ∧ t.X = s.X else t.S.toNat = s.S.toNat - 1 ∧ t.X.toNat = (s.X.toNat + 1) % 65536)
    ∧ RunsJumpR .rIY 0xcc (s.S != 0) [.S, .Y] s (fun t => if s.S = 0 then t.S = s.S ∧ t.Y = s.Y else t.S.toNat = s.S.toNat - 1 ∧ t.Y.toNat = (s.Y.toNat + 1) % 65536)
    ∧ RunsJumpR .rIZ 0xce (s.S != 0) [.S, .Z] s (fun t => if s.S = 0 then t.S = s.S ∧ t.Z = s.Z else t.S.toNat = s.S.toNat - 1 ∧ t.Z.toNat = (s.Z.toNat + 1) % 65536)
    ∧ RunsJumpR .rDX 0xcb (s.S != 0) [.S, .X] s (fun t => if s.S = 0 then t.S = s.S ∧ t.X = s.X else t.S.toNat = s.S.toNat - 1 ∧ (t.X.toNat : Int) = ((s.X.toNat : Int) - 1) % 65536)
    ∧ RunsJumpR .rDY 0xcd (s.S != 0) [.S, .Y] s (fun t => if s.S = 0 then t.S = s.S ∧ t.Y = s.Y else t.S.toNat = s.S.toNat - 1 ∧ (t.Y.toNat : Int) = ((s.Y.toNat : Int) - 1) % 65536)
    ∧ RunsJumpR .rDZ 0xcf (s.S != 0) [.S, .Z] s (fun t => if s.S = 0 then t.S = s.S ∧ t.Z = s.Z else t.S.toNat = s.S.toNat - 1 ∧ (t.Z.toNat : Int) = ((s.Z.toNat : Int) - 1) % 65536)

/-- O40. J.. goes to the address in K, leaves that address in R, and leaves P + 1 modulo 65536 in both Q and K, all from
the old values; one cycle, V unchanged. Each answers a next state in which P, the prefetched opcode, the cycle count
and the bus record are as the rule gives them; every other register, V and every byte of memory are unchanged.
Whatever the platform, it sees just the reads of the instruction and the cycles whose activity the spec does not
state; the default platform is as it was, and there the opcode prefetched is the byte of memory at the new P. (Rules
R328.) -/
def Obligations.JumpAndLink : Prop :=
  ∀ s : State,
    IsEncodedAs .j [0xff] ∧ Runs .j s.K.toNat 1 none [.R, .Q, .A, .B] s
      (fun t => t.R = s.K ∧ t.Q.toNat = (s.P.toNat + 1) % 65536 ∧ t.K = t.Q)

/-- O41. If J.. runs in s and answers t, and GT.Q runs in any later state that still holds that Q and answers u, and J..
then runs in u and answers v, then P of v is the address of the byte after the J.. of s, and R of v is that address.
(From 47_control.md section on subroutine linkage.) -/
def Obligations.CallAndReturn : Prop :=
  ∀ s t t' u v : State, exec .j s = .next t → t'.Q = t.Q → exec .gtQ t' = .next u → exec .j u = .next v →
    v.P.toNat = (s.P.toNat + 1) % 65536 ∧ v.R = v.P ∧ t.P = s.K ∧ t.R = s.K

/-- O42. SW.% prefetches the following opcode and then signals, in the same full cycle of tA type FE, the page switch of
its register (BX, BY or BZ) to the platform, whichever it is; no register, flag or byte of memory changes; one
cycle. (Rules R330, R331, R332.) -/
def Obligations.PageSwitches : Prop :=
  ∀ s : State,
    RunsSignals .swX 0xaa [(.FE, .BX)] [.pageSwitch .BX .FE] [.events] s
      (fun t => t.platform.events = s.platform.events ++ [.pageSwitch .BX .FE])
    ∧ RunsSignals .swY 0xb2 [(.FE, .BY)] [.pageSwitch .BY .FE] [.events] s
      (fun t => t.platform.events = s.platform.events ++ [.pageSwitch .BY .FE])
    ∧ RunsSignals .swZ 0xba [(.FE, .BZ)] [.pageSwitch .BZ .FE] [.events] s
      (fun t => t.platform.events = s.platform.events ++ [.pageSwitch .BZ .FE])

/-- O43. Where the opcode the platform delivers at P + 1 is 0xff, H.. prefetches it, signals the page switch BP in that
cycle and goes on with it; no register, flag or byte of memory changes; one cycle. (From 48_paging_io.md H..
followed by J.., 92_eei_decisions.md D25.) -/
def Obligations.HBeforeJSwitchesThePage : Prop :=
  ∀ s : State, s.memRead .FE (s.P + 1) = 0xff →
    RunsSignals .h 0x00 [(.FE, .BP)] [.pageSwitch .BP .FE] [.events] s
      (fun t => t.IR = 0xff ∧ t.platform.events = s.platform.events ++ [.pageSwitch .BP .FE])

/-- O44. Where the opcode the platform delivers at P + 1 is neither 0xff nor 0x00, H.. signals the page switch BP, reads
the I/O input at the old K into A, cancels the page switch by a second BP, and goes on with the following opcode; B
and V are unchanged; two cycles. The byte is the one the platform, after the fetch and the first page switch,
delivers; on the default platform it is the next one the environment has queued, or a free value of the input count
and K (the model's form of the free input of D15, log entry 5). (From 48_paging_io.md H.. followed by any other
opcode, 20_memory.md platform interface, 92_eei_decisions.md D15 and D25.) -/
def Obligations.HBeforeAnotherOpcodeInputsA : Prop :=
  ∀ s : State, s.memRead .FE (s.P + 1) ≠ 0xff → s.memRead .FE (s.P + 1) ≠ 0x00 →
    RunsSignals .h 0x00 [(.FE, .BP), (.HA, .BP)] [.pageSwitch .BP .FE, .ioRead s.K, .pageSwitch .BP .HA] [.A, .inputs, .ioCount, .events] s
      (fun t => t.A = (((s.platform.read .FE (s.P + 1)).2.pageSwitch .BP .FE).ioRead s.K).1
      ∧ t.platform.events =
          s.platform.events ++ [.pageSwitch .BP .FE, .ioRead s.K t.A, .pageSwitch .BP .HA]
      ∧ (s.onDefault → t.A = s.platform.inputs.headD (Config.ioInput s.platform.ioCount s.K)
          ∧ t.platform.inputs = s.platform.inputs.tail ∧ t.platform.ioCount = s.platform.ioCount + 1))

/-- O45. Where the opcode the platform delivers at P + 1 is 0x00, H.. signals the page switch BP, shows K in a KA cycle,
which is recorded as the final output, and halts; every register keeps its value but P, which is the address of the
second H.. (the decision D16 of the spec, log entry 11); two cycles. (From 48_paging_io.md H.. followed by H..,
92_eei_decisions.md D16.) -/
def Obligations.HBeforeHHalts : Prop :=
  ∀ s : State, s.memRead .FE (s.P + 1) = 0x00 →
    RunsSignals .h 0x00 [(.FE, .BP), (.KA, .BN)] [.pageSwitch .BP .FE, .kOut s.K] [.halted, .events, .output] s
      (fun t => t.halted = true ∧ t.IR = 0x00 ∧ t.platform.output = some s.K
      ∧ t.platform.events = s.platform.events ++ [.pageSwitch .BP .FE, .kOut s.K])

/-- O46. In state e of a platform other than the default, read, write, ioread, kout and pageswitch give what the
parameter PLATFORM gives for the access and e, and leave the platform in the state it gives, with the default's
memory untouched. On the default platform a read of any type delivers the byte of memory and leaves the platform as
it was; a write of any type to canonical memory leaves that byte and every other byte as before; a page switch
changes nothing but the record of it; an output is recorded; the unstated cycles do nothing. That a state of another
platform is a number, and its operations free functions, is the model's form of the open parameter (log entry 7).
(From 20_memory.md platform interface, 20_memory.md default platform, 92_eei_decisions.md D14.) -/
def Obligations.PlatformsAreTheDefaultOrTheParameter : Prop :=
  ∀ (pi : Platform) (t prev : BusType) (a k : Word) (v : Byte),
    (∀ e : Nat, pi.external = some e →
      (pi.read t a).1 = (Config.platformRead t a e).1
      ∧ (pi.read t a).2 = { pi with external := some (Config.platformRead t a e).2 }
      ∧ pi.write t a v = { pi with external := some (Config.platformWrite t a v e) }
      ∧ (pi.ioRead k).1 = (Config.platformIoRead k e).1
      ∧ (pi.ioRead k).2.external = some (Config.platformIoRead k e).2
      ∧ (pi.kOut k).external = some (Config.platformKOut k e)
      ∧ (pi.pageSwitch t prev).external = some (Config.platformPageSwitch t prev e)
      ∧ (pi.ioRead k).2.mem = pi.mem ∧ (pi.kOut k).mem = pi.mem ∧ (pi.pageSwitch t prev).mem = pi.mem)
    ∧ (pi.external = none →
      pi.read t a = (pi.mem.get a.toNat, pi)
      ∧ (pi.mem.wf = true → (pi.write t a v).mem.wf = true ∧ (pi.write t a v).mem.get a.toNat = v)
      ∧ (∀ b : Word, b ≠ a → (pi.write t a v).mem.get b.toNat = pi.mem.get b.toNat)
      ∧ pi.pageSwitch t prev = { pi with events := pi.events ++ [.pageSwitch t prev] }
      ∧ pi.kOut k = { pi with output := some k, events := pi.events ++ [.kOut k] }
      ∧ (∀ (fetched : Bool) (n : Nat), pi.unstated fetched n = pi))

/-- O47. Whatever the platform: an instruction without data access reads its operand, if it has one, then the opcode at
the target, with the cycles of unstated activity before and after; a data read or write and the fetch of the
following opcode come in the order of FETCH_ORDER, each on the platform as the one before has left it. That the
operand comes first is read from the first cycle of a two-byte instruction in the section on self-modifying code
(DEDUCED, log entry 13); FETCH_ORDER is an open parameter of the spec (D13, log entry 4). (From 20_memory.md
platform interface, 20_memory.md section on instruction-fetch coherence, 92_eei_decisions.md D13.) -/
def Obligations.AccessesFollowTheFetchOrder : Prop :=
  ∀ (pi : Platform) (t : BusType) (a target : Word) (v : Byte) (n : Nat),
    pi.fetchAfter none 0 target = pi.read .FE target
    ∧ pi.fetchAfter (some a) 0 target = (pi.read .RP a).2.read .FE target
    ∧ (pi.fetchAfter (some a) n target).2
        = pi.run [.read .RP a, .unstated false n, .read .FE target, .unstated true n]
    ∧ pi.readAndFetch t a target =
        (match Config.fetchOrder with
        | .fetchFirst => (((pi.read .FE target).2.read t a).1, (pi.read .FE target).1,
            ((pi.read .FE target).2.read t a).2)
        | .dataFirst => ((pi.read t a).1, ((pi.read t a).2.read .FE target).1, ((pi.read t a).2.read .FE target).2))
    ∧ pi.writeAndFetch t a v target =
        (match Config.fetchOrder with
        | .fetchFirst => ((pi.read .FE target).1, (pi.read .FE target).2.write t a v)
        | .dataFirst => (pi.write t a v).read .FE target)

/-- O48. In a state that is not halted, with RES inactive, whose prefetched opcode and the byte the platform delivers at
P + 1 decode to i, step answers what exec answers for i; on the default platform, where the prefetched opcode is the
byte of memory at P (see the statement on the prefetch), these are the bytes of memory at P. The moving of P past
the instruction is part of exec. That the operand byte is the one delivered before any other access of the
instruction is the model's own (DEDUCED, log entry 13). (From 10_state.md section on the prefetched opcode,
20_memory.md section on instruction-fetch coherence.) -/
def Obligations.StepRunsTheDecodedInstruction : Prop :=
  (∀ (s : State) (i : Instr) (rest rest' : List Byte), s.executes →
      decode (s.IR :: s.memRead .RP (s.P + 1) :: rest) = .ok (i, rest') → step s = exec i s)
    ∧ (∀ (s : State) (i : Instr) (rest rest' : List Byte), s.executes → s.onDefault → s.IR = s.byteAt s.P →
      decode (s.byteAt s.P :: s.byteAt (s.P + 1) :: rest) = .ok (i, rest') → step s = exec i s)

/-- O49. In a state with canonical memory, if the decoder reads i from a table word, then the state with that word
placed is one in which step runs i; its registers are those before, its platform is the default one, and every byte
of memory but those at P and P + 1 is as before. The placing is the model's stand-in for loading a program (log
entry 12). (From 70_reset_and_hazards.md boot requirements.) -/
def Obligations.PlacedWordRunsNext : Prop :=
  ∀ (s : State) (nbits w : Nat) (i : Instr), s.platform.mem.wf = true → decodeTableWord nbits w = some i →
    step (s.withFetchWord nbits w) = exec i (s.withFetchWord nbits w)
      ∧ (s.withFetchWord nbits w).P = s.P ∧ (s.withFetchWord nbits w).onDefault
      ∧ (∀ a : Word, a ≠ s.P → a ≠ s.P + 1 → (s.withFetchWord nbits w).byteAt a = s.byteAt a)
      ∧ KeepsBut [.halted, .res] s (s.withFetchWord nbits w)

/-- O50. For each of the 256 instructions, every operand and every state, exec answers a next state: no instruction can
fault, trap or be refused. (From 60_exceptions.md section on synchronous exceptions, 92_eei_decisions.md D18.) -/
def Obligations.EveryInstructionCompletes : Prop :=
  ∀ (i : Instr) (s : State), ∃ t, exec i s = .next t

/-- O51. A halted CPU with RES inactive has no successor: step faults with halted, and only there; in every other state
step answers a next state, and never a refusal. (From 60_exceptions.md section on the halted state,
93_implementation_defined.md U8.) -/
def Obligations.StepStopsOnlyWhenTerminated : Prop :=
  ∀ s : State, (s.terminated ∧ step s = .fault .halted) ∨ (¬ s.terminated ∧ ∃ t, step s = .next t)

/-- O52. If RES is active with START and A0, step answers a state with P = R = START, A = A0, halted cleared, RES
inactive, IR the byte the platform then delivers at START (on the default platform the byte of memory), and the
number of resets one higher; what the platform has seen before that fetch is nothing, if the CPU was halted, else a
prefix of the actions of the abandoned instruction (the decision D24 of the spec), in the order the model gives them
(log entries 4 and 13). Of memory, no byte changes but that the abandoned instruction, if the CPU was running and it
is a STM%, may have stored A at its address. Nothing is said of the registers a reset leaves unspecified: they hold
free values (log entry 6). Canonical memory, an invariant of the model, is the premise. (From
70_reset_and_hazards.md reset sequence, 60_exceptions.md section on reset, 92_eei_decisions.md D17 and D24.) -/
def Obligations.ResetLoadsPRAndA : Prop :=
  ∀ (s : State) (r : ResetInput), s.platform.mem.wf = true → s.res = some r → ∃ t, step s = .next t
      ∧ t.P = r.start ∧ t.R = r.start ∧ t.A = r.a0 ∧ t.halted = false ∧ t.res = none
      ∧ t.resetCount = s.resetCount + 1
      ∧ (∃ pi : Platform, (t.IR, t.platform) = pi.read .FE r.start
          ∧ (if s.halted then pi = s.platform
             else ∃ k : Nat, pi = s.platform.run ((s.platformActions s.nextInstr).take k)))
      ∧ (s.onDefault → t.onDefault ∧ t.IR = t.byteAt r.start)
      ∧ (∀ a : Word, t.byteAt a = s.byteAt a
          ∨ (s.halted = false ∧ t.byteAt a = s.A
              ∧ ((s.IR = 0x68 ∧ a = s.X) ∨ (s.IR = 0x70 ∧ a = s.Y) ∨ (s.IR = 0x78 ∧ a = s.Z))))

/-- O53. State.reset has P and R at START, A at A0, halted cleared, RES inactive, IR the byte of memory at START, no
output and no event yet, and memory with nothing listed. START = 0x0100 and A0 = 0 (log entry 1), the value of
unwritten memory (log entry 3), and that memory lists nothing and that there is no output and no event yet (log
entries 3 and 7, the latter DEDUCED) are the model's, not the spec's; of the registers the spec leaves unspecified
nothing is said. (From 10_state.md section on the state after reset, 70_reset_and_hazards.md reset sequence.) -/
def Obligations.ResetStateOfTheSpecAndTheModel : Prop :=
  State.reset.P = Config.start ∧ State.reset.R = Config.start ∧ State.reset.A = Config.a0
    ∧ State.reset.halted = false ∧ State.reset.res = none ∧ State.reset.IR = State.reset.byteAt Config.start
    ∧ State.reset.platform.output = none ∧ State.reset.platform.events = [] ∧ State.reset.platform.mem = []

/-- O54. State.reset has canonical memory and is not halted, so it satisfies State.Inv. (From 70_reset_and_hazards.md
reset sequence.) -/
def Obligations.ResetHasTheInvariant : Prop :=
  State.reset.Inv

/-- O55. From every state with canonical memory in which a halted CPU has fetched a second H.. and has shown K as its
last output, a step that answers a next state answers one of which the same holds. This goes over all 256
instructions and over a reset that abandons any of them. (From 10_state.md section on the halted state, 20_memory.md
default platform.) -/
def Obligations.EveryStepKeepsTheInvariant : Prop :=
  ∀ s t : State, s.Inv → step s = .next t → t.Inv

/-- O56. Whatever the state on the default platform, a step that answers a next state leaves it there, and after it the
prefetched opcode is the byte of memory at P, unless the step ran a STM% whose address is that of the following
opcode: so the machine is there one that reads its opcode at P, as the spec infers. (From 10_state.md section on the
prefetched opcode, 20_memory.md section on instruction-fetch coherence, 70_reset_and_hazards.md prefetch hazard.) -/
def Obligations.ThePrefetchedOpcodeIsTheByteAtP : Prop :=
  ∀ s t : State, s.onDefault → step s = .next t → t.onDefault ∧ (t.IR = t.byteAt t.P ∨ s.fetchRace)

/-- O57. Over all instructions and states: Q changes only by J..; R only by S.RP, O.RP and J..; V only by the
instructions the table of V names (AV, SV, LV in every form, IV.A, DV.A, ZO.V, SE.V, NE.V, CP.V, PV, TZ, RD, RU and
the six branches that test V); a byte of memory only by STM%, and only the one at its address register; the halted
state, the output and the inputs only by H..; the events only by H.. and SW.%; RES and the count of resets by none.
That no other instruction changes V is the inference D12 of the spec. (From 10_state.md sections on Q, R and V,
20_memory.md section on accesses, 92_eei_decisions.md D12.) -/
def Obligations.OnlyTheseInstructionsWriteTheseRegisters : Prop :=
  ∀ (i : Instr) (s t : State), exec i s = .next t →
      (t.Q ≠ s.Q → opcode i = 0xff)
    ∧ (t.R ≠ s.R → opcode i ∈ [0xf7, 0x51, 0xff])
    ∧ (t.V ≠ s.V → opcode i ∈ [0x9a, 0x62, 0x6a, 0x72, 0x7a, 0xf4, 0x9b, 0x63, 0x6b, 0x73, 0x7b, 0x99, 0x61, 0x69,
          0x71, 0x79, 0xf5, 0xa2, 0xa3, 0xa1, 0xe2, 0xe3, 0xe7, 0xe6, 0xe8, 0xea, 0xe9, 0xeb,
          0xec, 0xee, 0xed, 0xef, 0x40, 0x41, 0x42, 0x43, 0xc0, 0xc1])
    ∧ (∀ a : Word, t.byteAt a ≠ s.byteAt a → (opcode i = 0x68 ∧ a = s.X) ∨ (opcode i = 0x70 ∧ a = s.Y)
        ∨ (opcode i = 0x78 ∧ a = s.Z))
    ∧ (t.halted ≠ s.halted ∨ t.platform.output ≠ s.platform.output ∨ t.platform.inputs ≠ s.platform.inputs
        → opcode i = 0x00)
    ∧ (t.platform.events ≠ s.platform.events → opcode i ∈ [0x00, 0xaa, 0xb2, 0xba])
    ∧ t.res = s.res ∧ t.resetCount = s.resetCount

/-- O58. For every instruction but GT.Q, every state and every other value of Q, the instruction answers the same next
state in both, but that Q keeps the value it had (after J.. not even that: J.. overwrites it). (From 10_state.md
section on Q.) -/
def Obligations.OnlyGtQReadsQ : Prop :=
  ∀ (i : Instr) (s t : State) (q : Word), i ≠ .gtQ → exec i s = .next t →
    exec i { s with Q := q } = .next (if i = .j then t else { t with Q := q })

/-- O59. Two states that differ only in the cycle counter and in the two records of the last step's bus activity step
alike: the next states differ in the cycle counter alone. So no claim about registers or memory can depend on the
model's own counter. (From 70_reset_and_hazards.md section on what the model does with timing, 92_eei_decisions.md
D19.) -/
def Obligations.TimingAndBusRecordInfluenceNothing : Prop :=
  ∀ (s t : State) (c : Nat) (b : BusActivity) (f : Option (List (BusType × BusType))), step s = .next t →
    ∃ c' : Nat, step { s with cycles := c, bus := b, fullCycles := f } = .next { t with cycles := c' }

/-- O60. An instruction of one cycle (R457) is the full cycle (FE/BN); SW.X, SW.Y, SW.Z are (FE/BX), (FE/BY), (FE/BZ);
H.. is (FE/BP) before J.., (FE/BP) (KA/BN) before H.., (FE/BP) (HA/BP) before any other opcode; for the others the
spec does not state the sequence (N9) and the record says none. Where a sequence is recorded, the cycle counter has
advanced by its length, and each pair is a tA type and a tB type. After a step that takes a reset the record is
(FE/BN). REP is left out (D19, log entry 8). (From 70_reset_and_hazards.md known bus-cycle compositions,
20_memory.md full cycles and half cycles.) -/
def Obligations.KnownFullCycles : Prop :=
  ∀ s t : State,
    (∀ i : Instr, exec i s = .next t →
      t.fullCycles =
        (if opcode i = 0x00 then
          (if s.memRead .FE (s.P + 1) = 0xff then some [(.FE, .BP)]
           else if s.memRead .FE (s.P + 1) = 0x00 then some [(.FE, .BP), (.KA, .BN)]
           else some [(.FE, .BP), (.HA, .BP)])
        else if opcode i = 0xaa then some [(.FE, .BX)]
        else if opcode i = 0xb2 then some [(.FE, .BY)]
        else if opcode i = 0xba then some [(.FE, .BZ)]
        else if (opcode i).toNat < 0x40 ∨ (opcode i).toNat > 0x80 then some [(.FE, .BN)]
        else none)
      ∧ (∀ l : List (BusType × BusType), t.fullCycles = some l → t.cycles = s.cycles + l.length
          ∧ ∀ c ∈ l, c.1.half = .tA ∧ c.2.half = .tB))
    ∧ (∀ r : ResetInput, s.res = some r → step s = .next t → t.fullCycles = some [(.FE, .BN)])
end

