-- ==== Sys2Proof/Laws/Decode.lean ====
section
/-! SUPPORT. What the decoders do with the cell of an opcode: one lemma per decoder and kind of cell. -/

namespace Sys2Proof

theorem decode_of_f1 {op : Byte} {i : Instr} (h : opcodeCell op = .f1 i) (rest : List Byte) :
    decode (op :: rest) = .ok (i, rest) := by
  simp only [decode, h]

theorem decode_of_f2 {op : Byte} {f : Byte → Instr} (h : opcodeCell op = .f2 f) (nn : Byte) (rest : List Byte) :
    decode (op :: nn :: rest) = .ok (f nn, rest) := by
  simp only [decode, h]

theorem decode_of_f2_short {op : Byte} {f : Byte → Instr} (h : opcodeCell op = .f2 f) :
    decode [op] = .error (.missingOperand op) := by
  simp only [decode, h]

theorem decodeRaw_of_f1 {op : Byte} {i : Instr} (h : opcodeCell op = .f1 i) :
    decodeRaw { opcode := op, operand := none } = .ok i := by
  simp only [decodeRaw, h]

theorem decodeRaw_of_f2 {op : Byte} {f : Byte → Instr} (h : opcodeCell op = .f2 f) (nn : Byte) :
    decodeRaw { opcode := op, operand := some nn } = .ok (f nn) := by
  simp only [decodeRaw, h]

theorem decodeOp_of_f1 {op : Byte} {i : Instr} (h : opcodeCell op = .f1 i) (nn : Byte) : decodeOp op nn = i := by
  simp only [decodeOp, h]

theorem decodeOp_of_f2 {op : Byte} {f : Byte → Instr} (h : opcodeCell op = .f2 f) (nn : Byte) :
    decodeOp op nn = f nn := by
  simp only [decodeOp, h]

end Sys2Proof
end

