-- ==== Sys2Proof/Laws/Memory.lean ====
section
/-! SUPPORT. The laws of memory: reads after writes, and that every operation keeps the canonical form. -/

namespace Sys2Proof.Machine

/-- A canonical memory from `lo` on holds nothing below `lo`. -/
theorem Memory.get_of_lt : ∀ (m : Memory) (lo b : Nat), Memory.wfFrom lo m = true → b < lo →
    Memory.get m b = Config.unwrittenByte
  | [], _, _, _, _ => rfl
  | (a, v) :: m, lo, b, h, hb => by
    simp only [Memory.wfFrom, Bool.and_eq_true, decide_eq_true_eq] at h
    obtain ⟨⟨⟨hlo, -⟩, -⟩, hm⟩ := h
    have hne : a ≠ b := by omega
    simp only [Memory.get, if_neg hne]
    exact Memory.get_of_lt m (a + 1) b hm (by omega)

/-- A read of the address just written gives the byte written. -/
theorem Memory.get_set_same : ∀ (m : Memory) (lo b : Nat) (w : Byte), Memory.wfFrom lo m = true →
    Memory.get (Memory.set m b w) b = w
  | [], _, b, w, _ => by
    by_cases hw : w = Config.unwrittenByte
    · simp [Memory.set, Memory.get, hw]
    · simp [Memory.set, Memory.get, hw]
  | (a, v) :: m, lo, b, w, h => by
    have hm : Memory.wfFrom (a + 1) m = true := by
      simp only [Memory.wfFrom, Bool.and_eq_true] at h; exact h.2
    simp only [Memory.set]
    split
    · next hlt =>
      split
      · next hw =>
        have hne : a ≠ b := by omega
        simp only [Memory.get, if_neg hne, hw]
        exact Memory.get_of_lt m (a + 1) b hm (by omega)
      · simp [Memory.get]
    · split
      · next heq =>
        split
        · next hw => rw [hw]; exact Memory.get_of_lt m (a + 1) b hm (by omega)
        · simp [Memory.get]
      · next hne =>
        have : a ≠ b := fun e => hne e.symm
        simp only [Memory.get, if_neg this]
        exact Memory.get_set_same m (a + 1) b w hm

/-- A read of another address gives what it gave before, in canonical form or not. -/
theorem Memory.get_set_other (m : Memory) (b c : Nat) (w : Byte) (hc : c ≠ b) :
    Memory.get (Memory.set m b w) c = Memory.get m c := by
  induction m with
  | nil =>
    have : b ≠ c := fun e => hc e.symm
    by_cases hw : w = Config.unwrittenByte <;> simp [Memory.set, Memory.get, hw, this]
  | cons p m ih =>
    obtain ⟨a, v⟩ := p
    have hbc : b ≠ c := fun e => hc e.symm
    simp only [Memory.set]
    split
    · split
      · rfl
      · simp [Memory.get, hbc]
    · split
      · next heq =>
        have : a ≠ c := by omega
        split <;> simp [Memory.get, hbc, this]
      · simp only [Memory.get, ih]

/-- A memory that is canonical from a higher address on is so from a lower one. -/
theorem Memory.wfFrom_mono : ∀ (m : Memory) (lo lo' : Nat), lo' ≤ lo → Memory.wfFrom lo m = true →
    Memory.wfFrom lo' m = true
  | [], _, _, _, _ => rfl
  | (a, v) :: m, lo, lo', hle, h => by
    simp only [Memory.wfFrom, Bool.and_eq_true, decide_eq_true_eq] at h ⊢
    exact ⟨⟨⟨by omega, h.1.1.2⟩, h.1.2⟩, h.2⟩

/-- A write keeps the canonical form from `lo` on. -/
theorem Memory.wfFrom_set (m : Memory) (lo b : Nat) (w : Byte) (hlo : lo ≤ b) (hb : b < 65536)
    (h : Memory.wfFrom lo m = true) : Memory.wfFrom lo (Memory.set m b w) = true := by
  induction m generalizing lo with
  | nil => by_cases hw : w = Config.unwrittenByte <;> simp [Memory.set, Memory.wfFrom, hw, hlo, hb]
  | cons p m ih =>
    obtain ⟨a, v⟩ := p
    have h0 := h
    simp only [Memory.wfFrom, Bool.and_eq_true, decide_eq_true_eq] at h
    obtain ⟨⟨⟨hla, ha⟩, hv⟩, hm⟩ := h
    simp only [Memory.set]
    split
    · next hlt =>
      split
      · exact h0
      · next hw =>
        simp only [Memory.wfFrom, Bool.and_eq_true, decide_eq_true_eq]
        exact ⟨⟨⟨hlo, hb⟩, hw⟩, ⟨⟨hlt, ha⟩, hv⟩, hm⟩
    · split
      · next heq =>
        split
        · exact Memory.wfFrom_mono m (a + 1) lo (by omega) hm
        · next hw =>
          simp only [Memory.wfFrom, Bool.and_eq_true, decide_eq_true_eq]
          exact ⟨⟨⟨hlo, hb⟩, hw⟩, heq ▸ hm⟩
      · simp only [Memory.wfFrom, Bool.and_eq_true, decide_eq_true_eq]
        exact ⟨⟨⟨hla, ha⟩, hv⟩, ih (a + 1) (by omega) hm⟩

/-- A write keeps the canonical form. -/
theorem Memory.wf_set (m : Memory) (b : Nat) (w : Byte) (hb : b < 65536) (h : m.wf = true) :
    (Memory.set m b w).wf = true := Memory.wfFrom_set m 0 b w (Nat.zero_le b) hb h

/-- Two canonical memories that read the same everywhere are the same data. -/
theorem Memory.ext_of_wfFrom : ∀ (m n : Memory) (lo : Nat), Memory.wfFrom lo m = true → Memory.wfFrom lo n = true →
    (∀ a, Memory.get m a = Memory.get n a) → m = n
  | [], [], _, _, _, _ => rfl
  | [], (b, w) :: n, lo, _, hn, e => by
    simp only [Memory.wfFrom, Bool.and_eq_true, decide_eq_true_eq] at hn
    have := e b
    simp only [Memory.get, if_true] at this
    exact absurd this.symm hn.1.2
  | (a, v) :: m, [], lo, hm, _, e => by
    simp only [Memory.wfFrom, Bool.and_eq_true, decide_eq_true_eq] at hm
    have := e a
    simp only [Memory.get, if_true] at this
    exact absurd this hm.1.2
  | (a, v) :: m, (b, w) :: n, lo, hm, hn, e => by
    simp only [Memory.wfFrom, Bool.and_eq_true, decide_eq_true_eq] at hm hn
    have hab : a = b := by
      rcases Nat.lt_trichotomy a b with hlt | heq | hgt
      · have h1 := e a
        have hne : b ≠ a := by omega
        simp only [Memory.get, if_true, if_neg hne] at h1
        rw [Memory.get_of_lt n (b + 1) a hn.2 (by omega)] at h1
        exact absurd h1 hm.1.2
      · exact heq
      · have h1 := e b
        have hne : a ≠ b := by omega
        simp only [Memory.get, if_true, if_neg hne] at h1
        rw [Memory.get_of_lt m (a + 1) b hm.2 (by omega)] at h1
        exact absurd h1.symm hn.1.2
    subst hab
    have hv : v = w := by simpa [Memory.get] using e a
    subst hv
    have hmn : m = n := by
      apply Memory.ext_of_wfFrom m n (a + 1) hm.2 hn.2
      intro c
      by_cases hc : a = c
      · subst hc
        rw [Memory.get_of_lt m (a + 1) a hm.2 (by omega), Memory.get_of_lt n (a + 1) a hn.2 (by omega)]
      · simpa [Memory.get, hc] using e c
    rw [hmn]

/-- The placing of an instruction's bytes keeps the canonical form. -/
theorem State.placeWord_wf (s : State) (nbits w : Nat) (h : s.platform.mem.wf = true) :
    (s.placeWord nbits w).platform.mem.wf = true :=
  Memory.wf_set _ _ _ (s.P + 1).isLt (Memory.wf_set _ _ _ s.P.isLt h)

/-- Memory after reset is canonical. -/
theorem State.reset_wf : State.reset.platform.mem.wf = true := rfl

end Sys2Proof.Machine
end

