-- ==== Sys2Proof/Laws/Platform.lean ====
section
/-! SUPPORT. The laws of the platform interface (R55): what each operation leaves alone on every platform, and what it is on
the default one. -/

namespace Sys2Proof.Machine

/-! What an operation leaves alone, whatever the platform. -/

@[simp] theorem Platform.read_mem (pi : Platform) (t : BusType) (a : Word) : (pi.read t a).2.mem = pi.mem := by
  unfold Platform.read; split <;> rfl

@[simp] theorem Platform.read_inputs (pi : Platform) (t : BusType) (a : Word) : (pi.read t a).2.inputs = pi.inputs := by
  unfold Platform.read; split <;> rfl

@[simp] theorem Platform.read_ioCount (pi : Platform) (t : BusType) (a : Word) : (pi.read t a).2.ioCount = pi.ioCount := by
  unfold Platform.read; split <;> rfl

@[simp] theorem Platform.read_events (pi : Platform) (t : BusType) (a : Word) : (pi.read t a).2.events = pi.events := by
  unfold Platform.read; split <;> rfl

@[simp] theorem Platform.read_output (pi : Platform) (t : BusType) (a : Word) : (pi.read t a).2.output = pi.output := by
  unfold Platform.read; split <;> rfl

@[simp] theorem Platform.write_inputs (pi : Platform) (t : BusType) (a : Word) (v : Byte) :
    (pi.write t a v).inputs = pi.inputs := by
  unfold Platform.write; split <;> rfl

@[simp] theorem Platform.write_ioCount (pi : Platform) (t : BusType) (a : Word) (v : Byte) :
    (pi.write t a v).ioCount = pi.ioCount := by
  unfold Platform.write; split <;> rfl

@[simp] theorem Platform.write_events (pi : Platform) (t : BusType) (a : Word) (v : Byte) :
    (pi.write t a v).events = pi.events := by
  unfold Platform.write; split <;> rfl

@[simp] theorem Platform.write_output (pi : Platform) (t : BusType) (a : Word) (v : Byte) :
    (pi.write t a v).output = pi.output := by
  unfold Platform.write; split <;> rfl

@[simp] theorem Platform.unstated_mem (pi : Platform) (b : Bool) (n : Nat) : (pi.unstated b n).mem = pi.mem := rfl

@[simp] theorem Platform.unstated_inputs (pi : Platform) (b : Bool) (n : Nat) : (pi.unstated b n).inputs = pi.inputs := rfl

@[simp] theorem Platform.unstated_ioCount (pi : Platform) (b : Bool) (n : Nat) : (pi.unstated b n).ioCount = pi.ioCount := rfl

@[simp] theorem Platform.unstated_events (pi : Platform) (b : Bool) (n : Nat) : (pi.unstated b n).events = pi.events := rfl

@[simp] theorem Platform.unstated_output (pi : Platform) (b : Bool) (n : Nat) : (pi.unstated b n).output = pi.output := rfl

@[simp] theorem Platform.kOut_mem (pi : Platform) (k : Word) : (pi.kOut k).mem = pi.mem := rfl

@[simp] theorem Platform.kOut_inputs (pi : Platform) (k : Word) : (pi.kOut k).inputs = pi.inputs := rfl

@[simp] theorem Platform.kOut_ioCount (pi : Platform) (k : Word) : (pi.kOut k).ioCount = pi.ioCount := rfl

@[simp] theorem Platform.kOut_output (pi : Platform) (k : Word) : (pi.kOut k).output = some k := rfl

@[simp] theorem Platform.kOut_events (pi : Platform) (k : Word) : (pi.kOut k).events = pi.events ++ [.kOut k] := rfl

@[simp] theorem Platform.pageSwitch_mem (pi : Platform) (t u : BusType) : (pi.pageSwitch t u).mem = pi.mem := rfl

@[simp] theorem Platform.pageSwitch_inputs (pi : Platform) (t u : BusType) : (pi.pageSwitch t u).inputs = pi.inputs := rfl

@[simp] theorem Platform.pageSwitch_ioCount (pi : Platform) (t u : BusType) : (pi.pageSwitch t u).ioCount = pi.ioCount := rfl

@[simp] theorem Platform.pageSwitch_output (pi : Platform) (t u : BusType) : (pi.pageSwitch t u).output = pi.output := rfl

@[simp] theorem Platform.pageSwitch_events (pi : Platform) (t u : BusType) :
    (pi.pageSwitch t u).events = pi.events ++ [.pageSwitch t u] := rfl

@[simp] theorem Platform.ioRead_mem (pi : Platform) (k : Word) : (pi.ioRead k).2.mem = pi.mem := by
  unfold Platform.ioRead; split <;> rfl

@[simp] theorem Platform.ioRead_output (pi : Platform) (k : Word) : (pi.ioRead k).2.output = pi.output := by
  unfold Platform.ioRead; split <;> rfl

@[simp] theorem Platform.ioRead_events (pi : Platform) (k : Word) :
    (pi.ioRead k).2.events = pi.events ++ [.ioRead k (pi.ioRead k).1] := by
  unfold Platform.ioRead; split <;> rfl

@[simp] theorem Platform.fetchAfter_mem (pi : Platform) (o : Option Word) (n : Nat) (a : Word) :
    (pi.fetchAfter o n a).2.mem = pi.mem := by
  cases o <;> simp [Platform.fetchAfter]

@[simp] theorem Platform.fetchAfter_inputs (pi : Platform) (o : Option Word) (n : Nat) (a : Word) :
    (pi.fetchAfter o n a).2.inputs = pi.inputs := by
  cases o <;> simp [Platform.fetchAfter]

@[simp] theorem Platform.fetchAfter_ioCount (pi : Platform) (o : Option Word) (n : Nat) (a : Word) :
    (pi.fetchAfter o n a).2.ioCount = pi.ioCount := by
  cases o <;> simp [Platform.fetchAfter]

@[simp] theorem Platform.fetchAfter_events (pi : Platform) (o : Option Word) (n : Nat) (a : Word) :
    (pi.fetchAfter o n a).2.events = pi.events := by
  cases o <;> simp [Platform.fetchAfter]

@[simp] theorem Platform.fetchAfter_output (pi : Platform) (o : Option Word) (n : Nat) (a : Word) :
    (pi.fetchAfter o n a).2.output = pi.output := by
  cases o <;> simp [Platform.fetchAfter]

/-! FETCH_ORDER. -/

/-- The outcome selected is that of FETCH_ORDER (D13). -/
theorem inFetchOrder_eq {α : Type} [DecidableEq α] (x y : α) :
    inFetchOrder x y = match Config.fetchOrder with | .fetchFirst => x | .dataFirst => y := by
  unfold inFetchOrder
  split
  · next h => subst h; cases Config.fetchOrder <;> rfl
  · rfl

/-- What both orders have in common the outcome has. -/
theorem inFetchOrder_ind {α : Type} [DecidableEq α] {P : α → Prop} {x y : α} (hx : P x) (hy : P y) :
    P (inFetchOrder x y) := by
  rw [inFetchOrder_eq]
  cases Config.fetchOrder
  · exact hx
  · exact hy

@[simp] theorem Platform.readAndFetch_mem (pi : Platform) (t : BusType) (a b : Word) :
    (pi.readAndFetch t a b).2.2.mem = pi.mem := by
  refine inFetchOrder_ind (P := fun x : Byte × Byte × Platform => x.2.2.mem = pi.mem) ?_ ?_ <;> simp

@[simp] theorem Platform.readAndFetch_inputs (pi : Platform) (t : BusType) (a b : Word) :
    (pi.readAndFetch t a b).2.2.inputs = pi.inputs := by
  refine inFetchOrder_ind (P := fun x : Byte × Byte × Platform => x.2.2.inputs = pi.inputs) ?_ ?_ <;> simp

@[simp] theorem Platform.readAndFetch_ioCount (pi : Platform) (t : BusType) (a b : Word) :
    (pi.readAndFetch t a b).2.2.ioCount = pi.ioCount := by
  refine inFetchOrder_ind (P := fun x : Byte × Byte × Platform => x.2.2.ioCount = pi.ioCount) ?_ ?_ <;> simp

@[simp] theorem Platform.readAndFetch_events (pi : Platform) (t : BusType) (a b : Word) :
    (pi.readAndFetch t a b).2.2.events = pi.events := by
  refine inFetchOrder_ind (P := fun x : Byte × Byte × Platform => x.2.2.events = pi.events) ?_ ?_ <;> simp

@[simp] theorem Platform.readAndFetch_output (pi : Platform) (t : BusType) (a b : Word) :
    (pi.readAndFetch t a b).2.2.output = pi.output := by
  refine inFetchOrder_ind (P := fun x : Byte × Byte × Platform => x.2.2.output = pi.output) ?_ ?_ <;> simp

@[simp] theorem Platform.writeAndFetch_inputs (pi : Platform) (t : BusType) (a b : Word) (v : Byte) :
    (pi.writeAndFetch t a v b).2.inputs = pi.inputs := by
  refine inFetchOrder_ind (P := fun x : Byte × Platform => x.2.inputs = pi.inputs) ?_ ?_ <;> simp

@[simp] theorem Platform.writeAndFetch_ioCount (pi : Platform) (t : BusType) (a b : Word) (v : Byte) :
    (pi.writeAndFetch t a v b).2.ioCount = pi.ioCount := by
  refine inFetchOrder_ind (P := fun x : Byte × Platform => x.2.ioCount = pi.ioCount) ?_ ?_ <;> simp

@[simp] theorem Platform.writeAndFetch_events (pi : Platform) (t : BusType) (a b : Word) (v : Byte) :
    (pi.writeAndFetch t a v b).2.events = pi.events := by
  refine inFetchOrder_ind (P := fun x : Byte × Platform => x.2.events = pi.events) ?_ ?_ <;> simp

@[simp] theorem Platform.writeAndFetch_output (pi : Platform) (t : BusType) (a b : Word) (v : Byte) :
    (pi.writeAndFetch t a v b).2.output = pi.output := by
  refine inFetchOrder_ind (P := fun x : Byte × Platform => x.2.output = pi.output) ?_ ?_ <;> simp

/-! The canonical form of the default platform's memory. -/

theorem Platform.write_wf (pi : Platform) (t : BusType) (a : Word) (v : Byte) (h : pi.mem.wf = true) :
    (pi.write t a v).mem.wf = true := by
  unfold Platform.write
  split
  · exact Memory.wf_set pi.mem a.toNat v a.isLt h
  · exact h

/-- Of the platform's actions only a write touches memory, and it keeps the canonical form. -/
theorem Platform.act_wf (pi : Platform) (a : PlatformAction) (h : pi.mem.wf = true) : (pi.act a).mem.wf = true := by
  cases a with
  | write t addr v => exact pi.write_wf t addr v h
  | _ => simpa [Platform.act] using h

/-- A list of actions keeps the canonical form. -/
theorem Platform.run_wf (pi : Platform) (as : List PlatformAction) (h : pi.mem.wf = true) : (pi.run as).mem.wf = true := by
  induction as generalizing pi with
  | nil => exact h
  | cons a as ih => exact ih (pi.act a) (Platform.act_wf pi a h)

/-- A write to another address leaves the byte, whatever the platform. -/
theorem Platform.write_get_other (pi : Platform) (t : BusType) (a b : Word) (v : Byte) (h : b ≠ a) :
    (pi.write t a v).mem.get b.toNat = pi.mem.get b.toNat := by
  unfold Platform.write
  split
  · exact Memory.get_set_other _ _ _ _ (fun e => h (BitVec.eq_of_toNat_eq e))
  · rfl

/-! The default platform (R56). -/

theorem Platform.read_default {pi : Platform} (h : pi.external = none) (t : BusType) (a : Word) :
    pi.read t a = (pi.mem.get a.toNat, pi) := by
  simp only [Platform.read, h]

theorem Platform.write_default {pi : Platform} (h : pi.external = none) (t : BusType) (a : Word) (v : Byte) :
    pi.write t a v = { pi with mem := pi.mem.set a.toNat v } := by
  simp only [Platform.write, h]

theorem Platform.unstated_default {pi : Platform} (h : pi.external = none) (b : Bool) (n : Nat) :
    pi.unstated b n = pi := by
  simp only [Platform.unstated, h, Option.map_none]
  rw [← h]

theorem Platform.pageSwitch_default {pi : Platform} (h : pi.external = none) (t u : BusType) :
    pi.pageSwitch t u = { pi with events := pi.events ++ [.pageSwitch t u] } := by
  simp only [Platform.pageSwitch, h, Option.map_none]

theorem Platform.kOut_default {pi : Platform} (h : pi.external = none) (k : Word) :
    pi.kOut k = { pi with output := some k, events := pi.events ++ [.kOut k] } := by
  simp only [Platform.kOut, h, Option.map_none]

theorem Platform.ioRead_default {pi : Platform} (h : pi.external = none) (k : Word) :
    pi.ioRead k = (pi.inputs.headD (Config.ioInput pi.ioCount k),
      { pi with
        inputs := pi.inputs.tail, ioCount := pi.ioCount + 1
        events := pi.events ++ [.ioRead k (pi.inputs.headD (Config.ioInput pi.ioCount k))] }) := by
  simp only [Platform.ioRead, h]

theorem Platform.fetchAfter_default {pi : Platform} (h : pi.external = none) (o : Option Word) (n : Nat) (a : Word) :
    pi.fetchAfter o n a = (pi.mem.get a.toNat, pi) := by
  cases o <;> simp only [Platform.fetchAfter, Platform.read_default h, Platform.unstated_default h]

theorem Platform.readAndFetch_default {pi : Platform} (h : pi.external = none) (t : BusType) (a b : Word) :
    pi.readAndFetch t a b = (pi.mem.get a.toNat, pi.mem.get b.toNat, pi) := by
  simp only [Platform.readAndFetch, Platform.read_default h, inFetchOrder, if_true]

theorem Platform.writeAndFetch_default {pi : Platform} (h : pi.external = none) (t : BusType) (a b : Word) (v : Byte) :
    (pi.writeAndFetch t a v b).2 = { pi with mem := pi.mem.set a.toNat v } := by
  have hw : (pi.write t a v).external = none := by simp only [Platform.write, h]
  refine inFetchOrder_ind (P := fun x : Byte × Platform => x.2 = { pi with mem := pi.mem.set a.toNat v }) ?_ ?_
  · simp only [Platform.read_default h, Platform.write_default h]
  · simp only [Platform.read_default hw]
    exact Platform.write_default h t a v

/-- A store that does not hit the following opcode does not race with its fetch (R62). -/
theorem Platform.writeAndFetch_opcode {pi : Platform} (h : pi.external = none) (t : BusType) (a b : Word) (v : Byte)
    (hab : b ≠ a) : (pi.writeAndFetch t a v b).1 = pi.mem.get b.toNat := by
  have hw : (pi.write t a v).external = none := by simp only [Platform.write, h]
  refine inFetchOrder_ind (P := fun x : Byte × Platform => x.1 = pi.mem.get b.toNat) ?_ ?_
  · simp only [Platform.read_default h]
  · simp only [Platform.read_default hw]
    exact Platform.write_get_other pi t a b v hab

/-- Every action leaves the default platform the default one. -/
theorem Platform.act_default {pi : Platform} (h : pi.external = none) (a : PlatformAction) :
    (pi.act a).external = none := by
  cases a <;> simp [Platform.act, Platform.read, Platform.write, Platform.pageSwitch, Platform.ioRead, Platform.kOut,
    Platform.unstated, h]

theorem Platform.run_default {pi : Platform} (h : pi.external = none) (as : List PlatformAction) :
    (pi.run as).external = none := by
  induction as generalizing pi with
  | nil => exact h
  | cons a as ih => exact ih (Platform.act_default h a)

end Sys2Proof.Machine
end

