-- ==== Sys2Proof/Laws/State.lean ====
section
/-! SUPPORT. Beside State: one lemma per field per update, and what the aliases K and U and the named 16-bit registers read
after a write. A later proof rewrites with these and unfolds no record update. -/

namespace Sys2Proof.Machine

@[simp] theorem State.setA_P (s : State) (v : Byte) : (s.setA v).P = s.P := rfl
@[simp] theorem State.setA_Q (s : State) (v : Byte) : (s.setA v).Q = s.Q := rfl
@[simp] theorem State.setA_R (s : State) (v : Byte) : (s.setA v).R = s.R := rfl
@[simp] theorem State.setA_S (s : State) (v : Byte) : (s.setA v).S = s.S := rfl
@[simp] theorem State.setA_X (s : State) (v : Byte) : (s.setA v).X = s.X := rfl
@[simp] theorem State.setA_Y (s : State) (v : Byte) : (s.setA v).Y = s.Y := rfl
@[simp] theorem State.setA_Z (s : State) (v : Byte) : (s.setA v).Z = s.Z := rfl
@[simp] theorem State.setA_A (s : State) (v : Byte) : (s.setA v).A = v := rfl
@[simp] theorem State.setA_B (s : State) (v : Byte) : (s.setA v).B = s.B := rfl
@[simp] theorem State.setA_V (s : State) (v : Byte) : (s.setA v).V = s.V := rfl
@[simp] theorem State.setA_IR (s : State) (v : Byte) : (s.setA v).IR = s.IR := rfl
@[simp] theorem State.setA_halted (s : State) (v : Byte) : (s.setA v).halted = s.halted := rfl
@[simp] theorem State.setA_platform (s : State) (v : Byte) : (s.setA v).platform = s.platform := rfl
@[simp] theorem State.setA_res (s : State) (v : Byte) : (s.setA v).res = s.res := rfl
@[simp] theorem State.setA_resetCount (s : State) (v : Byte) : (s.setA v).resetCount = s.resetCount := rfl
@[simp] theorem State.setA_cycles (s : State) (v : Byte) : (s.setA v).cycles = s.cycles := rfl
@[simp] theorem State.setA_bus (s : State) (v : Byte) : (s.setA v).bus = s.bus := rfl
@[simp] theorem State.setA_fullCycles (s : State) (v : Byte) : (s.setA v).fullCycles = s.fullCycles := rfl

@[simp] theorem State.setB_P (s : State) (v : Byte) : (s.setB v).P = s.P := rfl
@[simp] theorem State.setB_Q (s : State) (v : Byte) : (s.setB v).Q = s.Q := rfl
@[simp] theorem State.setB_R (s : State) (v : Byte) : (s.setB v).R = s.R := rfl
@[simp] theorem State.setB_S (s : State) (v : Byte) : (s.setB v).S = s.S := rfl
@[simp] theorem State.setB_X (s : State) (v : Byte) : (s.setB v).X = s.X := rfl
@[simp] theorem State.setB_Y (s : State) (v : Byte) : (s.setB v).Y = s.Y := rfl
@[simp] theorem State.setB_Z (s : State) (v : Byte) : (s.setB v).Z = s.Z := rfl
@[simp] theorem State.setB_A (s : State) (v : Byte) : (s.setB v).A = s.A := rfl
@[simp] theorem State.setB_B (s : State) (v : Byte) : (s.setB v).B = v := rfl
@[simp] theorem State.setB_V (s : State) (v : Byte) : (s.setB v).V = s.V := rfl
@[simp] theorem State.setB_IR (s : State) (v : Byte) : (s.setB v).IR = s.IR := rfl
@[simp] theorem State.setB_halted (s : State) (v : Byte) : (s.setB v).halted = s.halted := rfl
@[simp] theorem State.setB_platform (s : State) (v : Byte) : (s.setB v).platform = s.platform := rfl
@[simp] theorem State.setB_res (s : State) (v : Byte) : (s.setB v).res = s.res := rfl
@[simp] theorem State.setB_resetCount (s : State) (v : Byte) : (s.setB v).resetCount = s.resetCount := rfl
@[simp] theorem State.setB_cycles (s : State) (v : Byte) : (s.setB v).cycles = s.cycles := rfl
@[simp] theorem State.setB_bus (s : State) (v : Byte) : (s.setB v).bus = s.bus := rfl
@[simp] theorem State.setB_fullCycles (s : State) (v : Byte) : (s.setB v).fullCycles = s.fullCycles := rfl

@[simp] theorem State.setV_P (s : State) (c : Bool) : (s.setV c).P = s.P := rfl
@[simp] theorem State.setV_Q (s : State) (c : Bool) : (s.setV c).Q = s.Q := rfl
@[simp] theorem State.setV_R (s : State) (c : Bool) : (s.setV c).R = s.R := rfl
@[simp] theorem State.setV_S (s : State) (c : Bool) : (s.setV c).S = s.S := rfl
@[simp] theorem State.setV_X (s : State) (c : Bool) : (s.setV c).X = s.X := rfl
@[simp] theorem State.setV_Y (s : State) (c : Bool) : (s.setV c).Y = s.Y := rfl
@[simp] theorem State.setV_Z (s : State) (c : Bool) : (s.setV c).Z = s.Z := rfl
@[simp] theorem State.setV_A (s : State) (c : Bool) : (s.setV c).A = s.A := rfl
@[simp] theorem State.setV_B (s : State) (c : Bool) : (s.setV c).B = s.B := rfl
@[simp] theorem State.setV_V (s : State) (c : Bool) : (s.setV c).V = c := rfl
@[simp] theorem State.setV_IR (s : State) (c : Bool) : (s.setV c).IR = s.IR := rfl
@[simp] theorem State.setV_halted (s : State) (c : Bool) : (s.setV c).halted = s.halted := rfl
@[simp] theorem State.setV_platform (s : State) (c : Bool) : (s.setV c).platform = s.platform := rfl
@[simp] theorem State.setV_res (s : State) (c : Bool) : (s.setV c).res = s.res := rfl
@[simp] theorem State.setV_resetCount (s : State) (c : Bool) : (s.setV c).resetCount = s.resetCount := rfl
@[simp] theorem State.setV_cycles (s : State) (c : Bool) : (s.setV c).cycles = s.cycles := rfl
@[simp] theorem State.setV_bus (s : State) (c : Bool) : (s.setV c).bus = s.bus := rfl
@[simp] theorem State.setV_fullCycles (s : State) (c : Bool) : (s.setV c).fullCycles = s.fullCycles := rfl

@[simp] theorem State.setK_P (s : State) (v : Word) : (s.setK v).P = s.P := rfl
@[simp] theorem State.setK_Q (s : State) (v : Word) : (s.setK v).Q = s.Q := rfl
@[simp] theorem State.setK_R (s : State) (v : Word) : (s.setK v).R = s.R := rfl
@[simp] theorem State.setK_S (s : State) (v : Word) : (s.setK v).S = s.S := rfl
@[simp] theorem State.setK_X (s : State) (v : Word) : (s.setK v).X = s.X := rfl
@[simp] theorem State.setK_Y (s : State) (v : Word) : (s.setK v).Y = s.Y := rfl
@[simp] theorem State.setK_Z (s : State) (v : Word) : (s.setK v).Z = s.Z := rfl
@[simp] theorem State.setK_A (s : State) (v : Word) : (s.setK v).A = highByte v := rfl
@[simp] theorem State.setK_B (s : State) (v : Word) : (s.setK v).B = lowByte v := rfl
@[simp] theorem State.setK_V (s : State) (v : Word) : (s.setK v).V = s.V := rfl
@[simp] theorem State.setK_IR (s : State) (v : Word) : (s.setK v).IR = s.IR := rfl
@[simp] theorem State.setK_halted (s : State) (v : Word) : (s.setK v).halted = s.halted := rfl
@[simp] theorem State.setK_platform (s : State) (v : Word) : (s.setK v).platform = s.platform := rfl
@[simp] theorem State.setK_res (s : State) (v : Word) : (s.setK v).res = s.res := rfl
@[simp] theorem State.setK_resetCount (s : State) (v : Word) : (s.setK v).resetCount = s.resetCount := rfl
@[simp] theorem State.setK_cycles (s : State) (v : Word) : (s.setK v).cycles = s.cycles := rfl
@[simp] theorem State.setK_bus (s : State) (v : Word) : (s.setK v).bus = s.bus := rfl
@[simp] theorem State.setK_fullCycles (s : State) (v : Word) : (s.setK v).fullCycles = s.fullCycles := rfl

@[simp] theorem State.setU_P (s : State) (u : Bool) : (s.setU u).P = s.P := rfl
@[simp] theorem State.setU_Q (s : State) (u : Bool) : (s.setU u).Q = s.Q := rfl
@[simp] theorem State.setU_R (s : State) (u : Bool) : (s.setU u).R = s.R := rfl
@[simp] theorem State.setU_S (s : State) (u : Bool) : (s.setU u).S = s.S := rfl
@[simp] theorem State.setU_X (s : State) (u : Bool) : (s.setU u).X = s.X := rfl
@[simp] theorem State.setU_Y (s : State) (u : Bool) : (s.setU u).Y = s.Y := rfl
@[simp] theorem State.setU_Z (s : State) (u : Bool) : (s.setU u).Z = s.Z := rfl
@[simp] theorem State.setU_A (s : State) (u : Bool) : (s.setU u).A = withBit7 u s.A := rfl
@[simp] theorem State.setU_B (s : State) (u : Bool) : (s.setU u).B = s.B := rfl
@[simp] theorem State.setU_V (s : State) (u : Bool) : (s.setU u).V = s.V := rfl
@[simp] theorem State.setU_IR (s : State) (u : Bool) : (s.setU u).IR = s.IR := rfl
@[simp] theorem State.setU_halted (s : State) (u : Bool) : (s.setU u).halted = s.halted := rfl
@[simp] theorem State.setU_platform (s : State) (u : Bool) : (s.setU u).platform = s.platform := rfl
@[simp] theorem State.setU_res (s : State) (u : Bool) : (s.setU u).res = s.res := rfl
@[simp] theorem State.setU_resetCount (s : State) (u : Bool) : (s.setU u).resetCount = s.resetCount := rfl
@[simp] theorem State.setU_cycles (s : State) (u : Bool) : (s.setU u).cycles = s.cycles := rfl
@[simp] theorem State.setU_bus (s : State) (u : Bool) : (s.setU u).bus = s.bus := rfl
@[simp] theorem State.setU_fullCycles (s : State) (u : Bool) : (s.setU u).fullCycles = s.fullCycles := rfl

@[simp] theorem State.setPlatform_P (s : State) (pi : Platform) : (s.setPlatform pi).P = s.P := rfl
@[simp] theorem State.setPlatform_Q (s : State) (pi : Platform) : (s.setPlatform pi).Q = s.Q := rfl
@[simp] theorem State.setPlatform_R (s : State) (pi : Platform) : (s.setPlatform pi).R = s.R := rfl
@[simp] theorem State.setPlatform_S (s : State) (pi : Platform) : (s.setPlatform pi).S = s.S := rfl
@[simp] theorem State.setPlatform_X (s : State) (pi : Platform) : (s.setPlatform pi).X = s.X := rfl
@[simp] theorem State.setPlatform_Y (s : State) (pi : Platform) : (s.setPlatform pi).Y = s.Y := rfl
@[simp] theorem State.setPlatform_Z (s : State) (pi : Platform) : (s.setPlatform pi).Z = s.Z := rfl
@[simp] theorem State.setPlatform_A (s : State) (pi : Platform) : (s.setPlatform pi).A = s.A := rfl
@[simp] theorem State.setPlatform_B (s : State) (pi : Platform) : (s.setPlatform pi).B = s.B := rfl
@[simp] theorem State.setPlatform_V (s : State) (pi : Platform) : (s.setPlatform pi).V = s.V := rfl
@[simp] theorem State.setPlatform_IR (s : State) (pi : Platform) : (s.setPlatform pi).IR = s.IR := rfl
@[simp] theorem State.setPlatform_halted (s : State) (pi : Platform) : (s.setPlatform pi).halted = s.halted := rfl
@[simp] theorem State.setPlatform_platform (s : State) (pi : Platform) : (s.setPlatform pi).platform = pi := rfl
@[simp] theorem State.setPlatform_res (s : State) (pi : Platform) : (s.setPlatform pi).res = s.res := rfl
@[simp] theorem State.setPlatform_resetCount (s : State) (pi : Platform) : (s.setPlatform pi).resetCount = s.resetCount := rfl
@[simp] theorem State.setPlatform_cycles (s : State) (pi : Platform) : (s.setPlatform pi).cycles = s.cycles := rfl
@[simp] theorem State.setPlatform_bus (s : State) (pi : Platform) : (s.setPlatform pi).bus = s.bus := rfl
@[simp] theorem State.setPlatform_fullCycles (s : State) (pi : Platform) : (s.setPlatform pi).fullCycles = s.fullCycles := rfl

@[simp] theorem State.halt_P (s : State) : (s.halt).P = s.P := rfl
@[simp] theorem State.halt_Q (s : State) : (s.halt).Q = s.Q := rfl
@[simp] theorem State.halt_R (s : State) : (s.halt).R = s.R := rfl
@[simp] theorem State.halt_S (s : State) : (s.halt).S = s.S := rfl
@[simp] theorem State.halt_X (s : State) : (s.halt).X = s.X := rfl
@[simp] theorem State.halt_Y (s : State) : (s.halt).Y = s.Y := rfl
@[simp] theorem State.halt_Z (s : State) : (s.halt).Z = s.Z := rfl
@[simp] theorem State.halt_A (s : State) : (s.halt).A = s.A := rfl
@[simp] theorem State.halt_B (s : State) : (s.halt).B = s.B := rfl
@[simp] theorem State.halt_V (s : State) : (s.halt).V = s.V := rfl
@[simp] theorem State.halt_IR (s : State) : (s.halt).IR = s.IR := rfl
@[simp] theorem State.halt_halted (s : State) : (s.halt).halted = true := rfl
@[simp] theorem State.halt_platform (s : State) : (s.halt).platform = s.platform := rfl
@[simp] theorem State.halt_res (s : State) : (s.halt).res = s.res := rfl
@[simp] theorem State.halt_resetCount (s : State) : (s.halt).resetCount = s.resetCount := rfl
@[simp] theorem State.halt_cycles (s : State) : (s.halt).cycles = s.cycles := rfl
@[simp] theorem State.halt_bus (s : State) : (s.halt).bus = s.bus := rfl
@[simp] theorem State.halt_fullCycles (s : State) : (s.halt).fullCycles = s.fullCycles := rfl

@[simp] theorem State.showCycles_P (s : State) (l : List (BusType × BusType)) : (s.showCycles l).P = s.P := rfl
@[simp] theorem State.showCycles_Q (s : State) (l : List (BusType × BusType)) : (s.showCycles l).Q = s.Q := rfl
@[simp] theorem State.showCycles_R (s : State) (l : List (BusType × BusType)) : (s.showCycles l).R = s.R := rfl
@[simp] theorem State.showCycles_S (s : State) (l : List (BusType × BusType)) : (s.showCycles l).S = s.S := rfl
@[simp] theorem State.showCycles_X (s : State) (l : List (BusType × BusType)) : (s.showCycles l).X = s.X := rfl
@[simp] theorem State.showCycles_Y (s : State) (l : List (BusType × BusType)) : (s.showCycles l).Y = s.Y := rfl
@[simp] theorem State.showCycles_Z (s : State) (l : List (BusType × BusType)) : (s.showCycles l).Z = s.Z := rfl
@[simp] theorem State.showCycles_A (s : State) (l : List (BusType × BusType)) : (s.showCycles l).A = s.A := rfl
@[simp] theorem State.showCycles_B (s : State) (l : List (BusType × BusType)) : (s.showCycles l).B = s.B := rfl
@[simp] theorem State.showCycles_V (s : State) (l : List (BusType × BusType)) : (s.showCycles l).V = s.V := rfl
@[simp] theorem State.showCycles_IR (s : State) (l : List (BusType × BusType)) : (s.showCycles l).IR = s.IR := rfl
@[simp] theorem State.showCycles_halted (s : State) (l : List (BusType × BusType)) : (s.showCycles l).halted = s.halted := rfl
@[simp] theorem State.showCycles_platform (s : State) (l : List (BusType × BusType)) : (s.showCycles l).platform = s.platform := rfl
@[simp] theorem State.showCycles_res (s : State) (l : List (BusType × BusType)) : (s.showCycles l).res = s.res := rfl
@[simp] theorem State.showCycles_resetCount (s : State) (l : List (BusType × BusType)) : (s.showCycles l).resetCount = s.resetCount := rfl
@[simp] theorem State.showCycles_cycles (s : State) (l : List (BusType × BusType)) : (s.showCycles l).cycles = s.cycles := rfl
@[simp] theorem State.showCycles_bus (s : State) (l : List (BusType × BusType)) : (s.showCycles l).bus = s.bus := rfl
@[simp] theorem State.showCycles_fullCycles (s : State) (l : List (BusType × BusType)) : (s.showCycles l).fullCycles = some l := rfl

@[simp] theorem State.pageSwitch_P (s : State) (t prev : BusType) : (s.pageSwitch t prev).P = s.P := rfl
@[simp] theorem State.pageSwitch_Q (s : State) (t prev : BusType) : (s.pageSwitch t prev).Q = s.Q := rfl
@[simp] theorem State.pageSwitch_R (s : State) (t prev : BusType) : (s.pageSwitch t prev).R = s.R := rfl
@[simp] theorem State.pageSwitch_S (s : State) (t prev : BusType) : (s.pageSwitch t prev).S = s.S := rfl
@[simp] theorem State.pageSwitch_X (s : State) (t prev : BusType) : (s.pageSwitch t prev).X = s.X := rfl
@[simp] theorem State.pageSwitch_Y (s : State) (t prev : BusType) : (s.pageSwitch t prev).Y = s.Y := rfl
@[simp] theorem State.pageSwitch_Z (s : State) (t prev : BusType) : (s.pageSwitch t prev).Z = s.Z := rfl
@[simp] theorem State.pageSwitch_A (s : State) (t prev : BusType) : (s.pageSwitch t prev).A = s.A := rfl
@[simp] theorem State.pageSwitch_B (s : State) (t prev : BusType) : (s.pageSwitch t prev).B = s.B := rfl
@[simp] theorem State.pageSwitch_V (s : State) (t prev : BusType) : (s.pageSwitch t prev).V = s.V := rfl
@[simp] theorem State.pageSwitch_IR (s : State) (t prev : BusType) : (s.pageSwitch t prev).IR = s.IR := rfl
@[simp] theorem State.pageSwitch_halted (s : State) (t prev : BusType) : (s.pageSwitch t prev).halted = s.halted := rfl
@[simp] theorem State.pageSwitch_platform (s : State) (t prev : BusType) : (s.pageSwitch t prev).platform = s.platform.pageSwitch t prev := rfl
@[simp] theorem State.pageSwitch_res (s : State) (t prev : BusType) : (s.pageSwitch t prev).res = s.res := rfl
@[simp] theorem State.pageSwitch_resetCount (s : State) (t prev : BusType) : (s.pageSwitch t prev).resetCount = s.resetCount := rfl
@[simp] theorem State.pageSwitch_cycles (s : State) (t prev : BusType) : (s.pageSwitch t prev).cycles = s.cycles := rfl
@[simp] theorem State.pageSwitch_bus (s : State) (t prev : BusType) : (s.pageSwitch t prev).bus = s.bus := rfl
@[simp] theorem State.pageSwitch_fullCycles (s : State) (t prev : BusType) : (s.pageSwitch t prev).fullCycles = s.fullCycles := rfl

@[simp] theorem State.kOut_P (s : State) (k : Word) : (s.kOut k).P = s.P := rfl
@[simp] theorem State.kOut_Q (s : State) (k : Word) : (s.kOut k).Q = s.Q := rfl
@[simp] theorem State.kOut_R (s : State) (k : Word) : (s.kOut k).R = s.R := rfl
@[simp] theorem State.kOut_S (s : State) (k : Word) : (s.kOut k).S = s.S := rfl
@[simp] theorem State.kOut_X (s : State) (k : Word) : (s.kOut k).X = s.X := rfl
@[simp] theorem State.kOut_Y (s : State) (k : Word) : (s.kOut k).Y = s.Y := rfl
@[simp] theorem State.kOut_Z (s : State) (k : Word) : (s.kOut k).Z = s.Z := rfl
@[simp] theorem State.kOut_A (s : State) (k : Word) : (s.kOut k).A = s.A := rfl
@[simp] theorem State.kOut_B (s : State) (k : Word) : (s.kOut k).B = s.B := rfl
@[simp] theorem State.kOut_V (s : State) (k : Word) : (s.kOut k).V = s.V := rfl
@[simp] theorem State.kOut_IR (s : State) (k : Word) : (s.kOut k).IR = s.IR := rfl
@[simp] theorem State.kOut_halted (s : State) (k : Word) : (s.kOut k).halted = s.halted := rfl
@[simp] theorem State.kOut_platform (s : State) (k : Word) : (s.kOut k).platform = s.platform.kOut k := rfl
@[simp] theorem State.kOut_res (s : State) (k : Word) : (s.kOut k).res = s.res := rfl
@[simp] theorem State.kOut_resetCount (s : State) (k : Word) : (s.kOut k).resetCount = s.resetCount := rfl
@[simp] theorem State.kOut_cycles (s : State) (k : Word) : (s.kOut k).cycles = s.cycles := rfl
@[simp] theorem State.kOut_bus (s : State) (k : Word) : (s.kOut k).bus = s.bus := rfl
@[simp] theorem State.kOut_fullCycles (s : State) (k : Word) : (s.kOut k).fullCycles = s.fullCycles := rfl

@[simp] theorem State.inputA_P (s : State) (k : Word) : (s.inputA k).P = s.P := rfl
@[simp] theorem State.inputA_Q (s : State) (k : Word) : (s.inputA k).Q = s.Q := rfl
@[simp] theorem State.inputA_R (s : State) (k : Word) : (s.inputA k).R = s.R := rfl
@[simp] theorem State.inputA_S (s : State) (k : Word) : (s.inputA k).S = s.S := rfl
@[simp] theorem State.inputA_X (s : State) (k : Word) : (s.inputA k).X = s.X := rfl
@[simp] theorem State.inputA_Y (s : State) (k : Word) : (s.inputA k).Y = s.Y := rfl
@[simp] theorem State.inputA_Z (s : State) (k : Word) : (s.inputA k).Z = s.Z := rfl
@[simp] theorem State.inputA_A (s : State) (k : Word) : (s.inputA k).A = (s.platform.ioRead k).1 := rfl
@[simp] theorem State.inputA_B (s : State) (k : Word) : (s.inputA k).B = s.B := rfl
@[simp] theorem State.inputA_V (s : State) (k : Word) : (s.inputA k).V = s.V := rfl
@[simp] theorem State.inputA_IR (s : State) (k : Word) : (s.inputA k).IR = s.IR := rfl
@[simp] theorem State.inputA_halted (s : State) (k : Word) : (s.inputA k).halted = s.halted := rfl
@[simp] theorem State.inputA_platform (s : State) (k : Word) : (s.inputA k).platform = (s.platform.ioRead k).2 := rfl
@[simp] theorem State.inputA_res (s : State) (k : Word) : (s.inputA k).res = s.res := rfl
@[simp] theorem State.inputA_resetCount (s : State) (k : Word) : (s.inputA k).resetCount = s.resetCount := rfl
@[simp] theorem State.inputA_cycles (s : State) (k : Word) : (s.inputA k).cycles = s.cycles := rfl
@[simp] theorem State.inputA_bus (s : State) (k : Word) : (s.inputA k).bus = s.bus := rfl
@[simp] theorem State.inputA_fullCycles (s : State) (k : Word) : (s.inputA k).fullCycles = s.fullCycles := rfl

@[simp] theorem State.fetchNext_P (s : State) : (s.fetchNext).P = s.P := rfl
@[simp] theorem State.fetchNext_Q (s : State) : (s.fetchNext).Q = s.Q := rfl
@[simp] theorem State.fetchNext_R (s : State) : (s.fetchNext).R = s.R := rfl
@[simp] theorem State.fetchNext_S (s : State) : (s.fetchNext).S = s.S := rfl
@[simp] theorem State.fetchNext_X (s : State) : (s.fetchNext).X = s.X := rfl
@[simp] theorem State.fetchNext_Y (s : State) : (s.fetchNext).Y = s.Y := rfl
@[simp] theorem State.fetchNext_Z (s : State) : (s.fetchNext).Z = s.Z := rfl
@[simp] theorem State.fetchNext_A (s : State) : (s.fetchNext).A = s.A := rfl
@[simp] theorem State.fetchNext_B (s : State) : (s.fetchNext).B = s.B := rfl
@[simp] theorem State.fetchNext_V (s : State) : (s.fetchNext).V = s.V := rfl
@[simp] theorem State.fetchNext_IR (s : State) : (s.fetchNext).IR = s.IR := rfl
@[simp] theorem State.fetchNext_halted (s : State) : (s.fetchNext).halted = s.halted := rfl
@[simp] theorem State.fetchNext_platform (s : State) : (s.fetchNext).platform = (s.platform.read .FE (s.P + 1)).2 := rfl
@[simp] theorem State.fetchNext_res (s : State) : (s.fetchNext).res = s.res := rfl
@[simp] theorem State.fetchNext_resetCount (s : State) : (s.fetchNext).resetCount = s.resetCount := rfl
@[simp] theorem State.fetchNext_cycles (s : State) : (s.fetchNext).cycles = s.cycles := rfl
@[simp] theorem State.fetchNext_bus (s : State) : (s.fetchNext).bus = s.bus := rfl
@[simp] theorem State.fetchNext_fullCycles (s : State) : (s.fetchNext).fullCycles = s.fullCycles := rfl

@[simp] theorem State.retireWith_P (s : State) (op : Byte) (target : Word) (n : Nat) (b : BusActivity) : (s.retireWith op target n b).P = target := rfl
@[simp] theorem State.retireWith_Q (s : State) (op : Byte) (target : Word) (n : Nat) (b : BusActivity) : (s.retireWith op target n b).Q = s.Q := rfl
@[simp] theorem State.retireWith_R (s : State) (op : Byte) (target : Word) (n : Nat) (b : BusActivity) : (s.retireWith op target n b).R = s.R := rfl
@[simp] theorem State.retireWith_S (s : State) (op : Byte) (target : Word) (n : Nat) (b : BusActivity) : (s.retireWith op target n b).S = s.S := rfl
@[simp] theorem State.retireWith_X (s : State) (op : Byte) (target : Word) (n : Nat) (b : BusActivity) : (s.retireWith op target n b).X = s.X := rfl
@[simp] theorem State.retireWith_Y (s : State) (op : Byte) (target : Word) (n : Nat) (b : BusActivity) : (s.retireWith op target n b).Y = s.Y := rfl
@[simp] theorem State.retireWith_Z (s : State) (op : Byte) (target : Word) (n : Nat) (b : BusActivity) : (s.retireWith op target n b).Z = s.Z := rfl
@[simp] theorem State.retireWith_A (s : State) (op : Byte) (target : Word) (n : Nat) (b : BusActivity) : (s.retireWith op target n b).A = s.A := rfl
@[simp] theorem State.retireWith_B (s : State) (op : Byte) (target : Word) (n : Nat) (b : BusActivity) : (s.retireWith op target n b).B = s.B := rfl
@[simp] theorem State.retireWith_V (s : State) (op : Byte) (target : Word) (n : Nat) (b : BusActivity) : (s.retireWith op target n b).V = s.V := rfl
@[simp] theorem State.retireWith_IR (s : State) (op : Byte) (target : Word) (n : Nat) (b : BusActivity) : (s.retireWith op target n b).IR = op := rfl
@[simp] theorem State.retireWith_halted (s : State) (op : Byte) (target : Word) (n : Nat) (b : BusActivity) : (s.retireWith op target n b).halted = s.halted := rfl
@[simp] theorem State.retireWith_platform (s : State) (op : Byte) (target : Word) (n : Nat) (b : BusActivity) : (s.retireWith op target n b).platform = s.platform := rfl
@[simp] theorem State.retireWith_res (s : State) (op : Byte) (target : Word) (n : Nat) (b : BusActivity) : (s.retireWith op target n b).res = s.res := rfl
@[simp] theorem State.retireWith_resetCount (s : State) (op : Byte) (target : Word) (n : Nat) (b : BusActivity) : (s.retireWith op target n b).resetCount = s.resetCount := rfl
@[simp] theorem State.retireWith_cycles (s : State) (op : Byte) (target : Word) (n : Nat) (b : BusActivity) : (s.retireWith op target n b).cycles = s.cycles + n := rfl
@[simp] theorem State.retireWith_bus (s : State) (op : Byte) (target : Word) (n : Nat) (b : BusActivity) : (s.retireWith op target n b).bus = b := rfl
@[simp] theorem State.retireWith_fullCycles (s : State) (op : Byte) (target : Word) (n : Nat) (b : BusActivity) : (s.retireWith op target n b).fullCycles = ordinaryCycles n := rfl

@[simp] theorem State.retire_P (s : State) (target : Word) (n : Nat) (o : Option Word) : (s.retire target n o).P = target := rfl
@[simp] theorem State.retire_Q (s : State) (target : Word) (n : Nat) (o : Option Word) : (s.retire target n o).Q = s.Q := rfl
@[simp] theorem State.retire_R (s : State) (target : Word) (n : Nat) (o : Option Word) : (s.retire target n o).R = s.R := rfl
@[simp] theorem State.retire_S (s : State) (target : Word) (n : Nat) (o : Option Word) : (s.retire target n o).S = s.S := rfl
@[simp] theorem State.retire_X (s : State) (target : Word) (n : Nat) (o : Option Word) : (s.retire target n o).X = s.X := rfl
@[simp] theorem State.retire_Y (s : State) (target : Word) (n : Nat) (o : Option Word) : (s.retire target n o).Y = s.Y := rfl
@[simp] theorem State.retire_Z (s : State) (target : Word) (n : Nat) (o : Option Word) : (s.retire target n o).Z = s.Z := rfl
@[simp] theorem State.retire_A (s : State) (target : Word) (n : Nat) (o : Option Word) : (s.retire target n o).A = s.A := rfl
@[simp] theorem State.retire_B (s : State) (target : Word) (n : Nat) (o : Option Word) : (s.retire target n o).B = s.B := rfl
@[simp] theorem State.retire_V (s : State) (target : Word) (n : Nat) (o : Option Word) : (s.retire target n o).V = s.V := rfl
@[simp] theorem State.retire_IR (s : State) (target : Word) (n : Nat) (o : Option Word) : (s.retire target n o).IR = (s.platform.fetchAfter o (n - 1 - o.toList.length) target).1 := rfl
@[simp] theorem State.retire_halted (s : State) (target : Word) (n : Nat) (o : Option Word) : (s.retire target n o).halted = s.halted := rfl
@[simp] theorem State.retire_platform (s : State) (target : Word) (n : Nat) (o : Option Word) : (s.retire target n o).platform = (s.platform.fetchAfter o (n - 1 - o.toList.length) target).2 := rfl
@[simp] theorem State.retire_res (s : State) (target : Word) (n : Nat) (o : Option Word) : (s.retire target n o).res = s.res := rfl
@[simp] theorem State.retire_resetCount (s : State) (target : Word) (n : Nat) (o : Option Word) : (s.retire target n o).resetCount = s.resetCount := rfl
@[simp] theorem State.retire_cycles (s : State) (target : Word) (n : Nat) (o : Option Word) : (s.retire target n o).cycles = s.cycles + n := rfl
@[simp] theorem State.retire_bus (s : State) (target : Word) (n : Nat) (o : Option Word) : (s.retire target n o).bus = { fetch := target, operand := o, data := none, unstated := n - 1 - o.toList.length } := rfl
@[simp] theorem State.retire_fullCycles (s : State) (target : Word) (n : Nat) (o : Option Word) : (s.retire target n o).fullCycles = ordinaryCycles n := rfl

@[simp] theorem State.advance1_P (s : State) (n : Nat) : (s.advance1 n).P = s.P + 1 := rfl
@[simp] theorem State.advance1_Q (s : State) (n : Nat) : (s.advance1 n).Q = s.Q := rfl
@[simp] theorem State.advance1_R (s : State) (n : Nat) : (s.advance1 n).R = s.R := rfl
@[simp] theorem State.advance1_S (s : State) (n : Nat) : (s.advance1 n).S = s.S := rfl
@[simp] theorem State.advance1_X (s : State) (n : Nat) : (s.advance1 n).X = s.X := rfl
@[simp] theorem State.advance1_Y (s : State) (n : Nat) : (s.advance1 n).Y = s.Y := rfl
@[simp] theorem State.advance1_Z (s : State) (n : Nat) : (s.advance1 n).Z = s.Z := rfl
@[simp] theorem State.advance1_A (s : State) (n : Nat) : (s.advance1 n).A = s.A := rfl
@[simp] theorem State.advance1_B (s : State) (n : Nat) : (s.advance1 n).B = s.B := rfl
@[simp] theorem State.advance1_V (s : State) (n : Nat) : (s.advance1 n).V = s.V := rfl
@[simp] theorem State.advance1_IR (s : State) (n : Nat) : (s.advance1 n).IR = (s.platform.fetchAfter none (n - 1) (s.P + 1)).1 := rfl
@[simp] theorem State.advance1_halted (s : State) (n : Nat) : (s.advance1 n).halted = s.halted := rfl
@[simp] theorem State.advance1_platform (s : State) (n : Nat) : (s.advance1 n).platform = (s.platform.fetchAfter none (n - 1) (s.P + 1)).2 := rfl
@[simp] theorem State.advance1_res (s : State) (n : Nat) : (s.advance1 n).res = s.res := rfl
@[simp] theorem State.advance1_resetCount (s : State) (n : Nat) : (s.advance1 n).resetCount = s.resetCount := rfl
@[simp] theorem State.advance1_cycles (s : State) (n : Nat) : (s.advance1 n).cycles = s.cycles + n := rfl
@[simp] theorem State.advance1_bus (s : State) (n : Nat) : (s.advance1 n).bus = { fetch := s.P + 1, operand := none, data := none, unstated := n - 1 } := rfl
@[simp] theorem State.advance1_fullCycles (s : State) (n : Nat) : (s.advance1 n).fullCycles = ordinaryCycles n := rfl

@[simp] theorem State.advance2_P (s : State) (n : Nat) : (s.advance2 n).P = s.P + 2 := rfl
@[simp] theorem State.advance2_Q (s : State) (n : Nat) : (s.advance2 n).Q = s.Q := rfl
@[simp] theorem State.advance2_R (s : State) (n : Nat) : (s.advance2 n).R = s.R := rfl
@[simp] theorem State.advance2_S (s : State) (n : Nat) : (s.advance2 n).S = s.S := rfl
@[simp] theorem State.advance2_X (s : State) (n : Nat) : (s.advance2 n).X = s.X := rfl
@[simp] theorem State.advance2_Y (s : State) (n : Nat) : (s.advance2 n).Y = s.Y := rfl
@[simp] theorem State.advance2_Z (s : State) (n : Nat) : (s.advance2 n).Z = s.Z := rfl
@[simp] theorem State.advance2_A (s : State) (n : Nat) : (s.advance2 n).A = s.A := rfl
@[simp] theorem State.advance2_B (s : State) (n : Nat) : (s.advance2 n).B = s.B := rfl
@[simp] theorem State.advance2_V (s : State) (n : Nat) : (s.advance2 n).V = s.V := rfl
@[simp] theorem State.advance2_IR (s : State) (n : Nat) : (s.advance2 n).IR = (s.platform.fetchAfter (some (s.P + 1)) (n - 1 - 1) (s.P + 2)).1 := rfl
@[simp] theorem State.advance2_halted (s : State) (n : Nat) : (s.advance2 n).halted = s.halted := rfl
@[simp] theorem State.advance2_platform (s : State) (n : Nat) : (s.advance2 n).platform = (s.platform.fetchAfter (some (s.P + 1)) (n - 1 - 1) (s.P + 2)).2 := rfl
@[simp] theorem State.advance2_res (s : State) (n : Nat) : (s.advance2 n).res = s.res := rfl
@[simp] theorem State.advance2_resetCount (s : State) (n : Nat) : (s.advance2 n).resetCount = s.resetCount := rfl
@[simp] theorem State.advance2_cycles (s : State) (n : Nat) : (s.advance2 n).cycles = s.cycles + n := rfl
@[simp] theorem State.advance2_bus (s : State) (n : Nat) : (s.advance2 n).bus = { fetch := s.P + 2, operand := (some (s.P + 1)), data := none, unstated := n - 1 - 1 } := rfl
@[simp] theorem State.advance2_fullCycles (s : State) (n : Nat) : (s.advance2 n).fullCycles = ordinaryCycles n := rfl

@[simp] theorem State.advanceRead_P (s : State) (r : PtrReg) : (s.advanceRead r).P = s.P + 1 := rfl
@[simp] theorem State.advanceRead_Q (s : State) (r : PtrReg) : (s.advanceRead r).Q = s.Q := rfl
@[simp] theorem State.advanceRead_R (s : State) (r : PtrReg) : (s.advanceRead r).R = s.R := rfl
@[simp] theorem State.advanceRead_S (s : State) (r : PtrReg) : (s.advanceRead r).S = s.S := rfl
@[simp] theorem State.advanceRead_X (s : State) (r : PtrReg) : (s.advanceRead r).X = s.X := rfl
@[simp] theorem State.advanceRead_Y (s : State) (r : PtrReg) : (s.advanceRead r).Y = s.Y := rfl
@[simp] theorem State.advanceRead_Z (s : State) (r : PtrReg) : (s.advanceRead r).Z = s.Z := rfl
@[simp] theorem State.advanceRead_A (s : State) (r : PtrReg) : (s.advanceRead r).A = s.A := rfl
@[simp] theorem State.advanceRead_B (s : State) (r : PtrReg) : (s.advanceRead r).B = s.B := rfl
@[simp] theorem State.advanceRead_V (s : State) (r : PtrReg) : (s.advanceRead r).V = s.V := rfl
@[simp] theorem State.advanceRead_IR (s : State) (r : PtrReg) : (s.advanceRead r).IR = (s.platform.readAndFetch r.readType (s.get16 r.reg) (s.P + 1)).2.1 := rfl
@[simp] theorem State.advanceRead_halted (s : State) (r : PtrReg) : (s.advanceRead r).halted = s.halted := rfl
@[simp] theorem State.advanceRead_platform (s : State) (r : PtrReg) : (s.advanceRead r).platform = (s.platform.readAndFetch r.readType (s.get16 r.reg) (s.P + 1)).2.2 := rfl
@[simp] theorem State.advanceRead_res (s : State) (r : PtrReg) : (s.advanceRead r).res = s.res := rfl
@[simp] theorem State.advanceRead_resetCount (s : State) (r : PtrReg) : (s.advanceRead r).resetCount = s.resetCount := rfl
@[simp] theorem State.advanceRead_cycles (s : State) (r : PtrReg) : (s.advanceRead r).cycles = s.cycles + 2 := rfl
@[simp] theorem State.advanceRead_bus (s : State) (r : PtrReg) : (s.advanceRead r).bus = { fetch := s.P + 1, operand := none, data := some { type := r.readType, addr := s.get16 r.reg, byte := s.dataByte r }, unstated := 0 } := rfl
@[simp] theorem State.advanceRead_fullCycles (s : State) (r : PtrReg) : (s.advanceRead r).fullCycles = ordinaryCycles 2 := rfl

@[simp] theorem State.advanceWrite_P (s : State) (r : PtrReg) (v : Byte) : (s.advanceWrite r v).P = s.P + 1 := rfl
@[simp] theorem State.advanceWrite_Q (s : State) (r : PtrReg) (v : Byte) : (s.advanceWrite r v).Q = s.Q := rfl
@[simp] theorem State.advanceWrite_R (s : State) (r : PtrReg) (v : Byte) : (s.advanceWrite r v).R = s.R := rfl
@[simp] theorem State.advanceWrite_S (s : State) (r : PtrReg) (v : Byte) : (s.advanceWrite r v).S = s.S := rfl
@[simp] theorem State.advanceWrite_X (s : State) (r : PtrReg) (v : Byte) : (s.advanceWrite r v).X = s.X := rfl
@[simp] theorem State.advanceWrite_Y (s : State) (r : PtrReg) (v : Byte) : (s.advanceWrite r v).Y = s.Y := rfl
@[simp] theorem State.advanceWrite_Z (s : State) (r : PtrReg) (v : Byte) : (s.advanceWrite r v).Z = s.Z := rfl
@[simp] theorem State.advanceWrite_A (s : State) (r : PtrReg) (v : Byte) : (s.advanceWrite r v).A = s.A := rfl
@[simp] theorem State.advanceWrite_B (s : State) (r : PtrReg) (v : Byte) : (s.advanceWrite r v).B = s.B := rfl
@[simp] theorem State.advanceWrite_V (s : State) (r : PtrReg) (v : Byte) : (s.advanceWrite r v).V = s.V := rfl
@[simp] theorem State.advanceWrite_IR (s : State) (r : PtrReg) (v : Byte) : (s.advanceWrite r v).IR = (s.platform.writeAndFetch r.writeType (s.get16 r.reg) v (s.P + 1)).1 := rfl
@[simp] theorem State.advanceWrite_halted (s : State) (r : PtrReg) (v : Byte) : (s.advanceWrite r v).halted = s.halted := rfl
@[simp] theorem State.advanceWrite_platform (s : State) (r : PtrReg) (v : Byte) : (s.advanceWrite r v).platform = (s.platform.writeAndFetch r.writeType (s.get16 r.reg) v (s.P + 1)).2 := rfl
@[simp] theorem State.advanceWrite_res (s : State) (r : PtrReg) (v : Byte) : (s.advanceWrite r v).res = s.res := rfl
@[simp] theorem State.advanceWrite_resetCount (s : State) (r : PtrReg) (v : Byte) : (s.advanceWrite r v).resetCount = s.resetCount := rfl
@[simp] theorem State.advanceWrite_cycles (s : State) (r : PtrReg) (v : Byte) : (s.advanceWrite r v).cycles = s.cycles + 2 := rfl
@[simp] theorem State.advanceWrite_bus (s : State) (r : PtrReg) (v : Byte) : (s.advanceWrite r v).bus = { fetch := s.P + 1, operand := none, data := some { type := r.writeType, addr := s.get16 r.reg, byte := v }, unstated := 0 } := rfl
@[simp] theorem State.advanceWrite_fullCycles (s : State) (r : PtrReg) (v : Byte) : (s.advanceWrite r v).fullCycles = ordinaryCycles 2 := rfl

@[simp] theorem State.retireSignals_P (t s : State) (l : List (BusType × BusType)) : (t.retireSignals s l).P = s.P + 1 := rfl
@[simp] theorem State.retireSignals_Q (t s : State) (l : List (BusType × BusType)) : (t.retireSignals s l).Q = t.Q := rfl
@[simp] theorem State.retireSignals_R (t s : State) (l : List (BusType × BusType)) : (t.retireSignals s l).R = t.R := rfl
@[simp] theorem State.retireSignals_S (t s : State) (l : List (BusType × BusType)) : (t.retireSignals s l).S = t.S := rfl
@[simp] theorem State.retireSignals_X (t s : State) (l : List (BusType × BusType)) : (t.retireSignals s l).X = t.X := rfl
@[simp] theorem State.retireSignals_Y (t s : State) (l : List (BusType × BusType)) : (t.retireSignals s l).Y = t.Y := rfl
@[simp] theorem State.retireSignals_Z (t s : State) (l : List (BusType × BusType)) : (t.retireSignals s l).Z = t.Z := rfl
@[simp] theorem State.retireSignals_A (t s : State) (l : List (BusType × BusType)) : (t.retireSignals s l).A = t.A := rfl
@[simp] theorem State.retireSignals_B (t s : State) (l : List (BusType × BusType)) : (t.retireSignals s l).B = t.B := rfl
@[simp] theorem State.retireSignals_V (t s : State) (l : List (BusType × BusType)) : (t.retireSignals s l).V = t.V := rfl
@[simp] theorem State.retireSignals_IR (t s : State) (l : List (BusType × BusType)) : (t.retireSignals s l).IR = s.memRead .FE (s.P + 1) := rfl
@[simp] theorem State.retireSignals_halted (t s : State) (l : List (BusType × BusType)) : (t.retireSignals s l).halted = t.halted := rfl
@[simp] theorem State.retireSignals_platform (t s : State) (l : List (BusType × BusType)) : (t.retireSignals s l).platform = t.platform := rfl
@[simp] theorem State.retireSignals_res (t s : State) (l : List (BusType × BusType)) : (t.retireSignals s l).res = t.res := rfl
@[simp] theorem State.retireSignals_resetCount (t s : State) (l : List (BusType × BusType)) : (t.retireSignals s l).resetCount = t.resetCount := rfl
@[simp] theorem State.retireSignals_cycles (t s : State) (l : List (BusType × BusType)) : (t.retireSignals s l).cycles = t.cycles + l.length := rfl
@[simp] theorem State.retireSignals_bus (t s : State) (l : List (BusType × BusType)) : (t.retireSignals s l).bus = { fetch := s.P + 1, operand := none, data := none, unstated := 0 } := rfl
@[simp] theorem State.retireSignals_fullCycles (t s : State) (l : List (BusType × BusType)) : (t.retireSignals s l).fullCycles = some l := rfl

/-! A write of a named 16-bit register. -/

@[simp] theorem State.set16_P (s : State) (r : Reg16) (v : Word) : (s.set16 r v).P = s.P := by cases r <;> rfl
@[simp] theorem State.set16_V (s : State) (r : Reg16) (v : Word) : (s.set16 r v).V = s.V := by cases r <;> rfl
@[simp] theorem State.set16_IR (s : State) (r : Reg16) (v : Word) : (s.set16 r v).IR = s.IR := by cases r <;> rfl
@[simp] theorem State.set16_halted (s : State) (r : Reg16) (v : Word) : (s.set16 r v).halted = s.halted := by cases r <;> rfl
@[simp] theorem State.set16_platform (s : State) (r : Reg16) (v : Word) : (s.set16 r v).platform = s.platform := by cases r <;> rfl
@[simp] theorem State.set16_res (s : State) (r : Reg16) (v : Word) : (s.set16 r v).res = s.res := by cases r <;> rfl
@[simp] theorem State.set16_resetCount (s : State) (r : Reg16) (v : Word) : (s.set16 r v).resetCount = s.resetCount := by cases r <;> rfl
@[simp] theorem State.set16_cycles (s : State) (r : Reg16) (v : Word) : (s.set16 r v).cycles = s.cycles := by cases r <;> rfl
@[simp] theorem State.set16_bus (s : State) (r : Reg16) (v : Word) : (s.set16 r v).bus = s.bus := by cases r <;> rfl
@[simp] theorem State.set16_fullCycles (s : State) (r : Reg16) (v : Word) : (s.set16 r v).fullCycles = s.fullCycles := by cases r <;> rfl

@[simp] theorem State.set16_K_A (s : State) (v : Word) : (s.set16 .K v).A = highByte v := rfl
@[simp] theorem State.set16_K_B (s : State) (v : Word) : (s.set16 .K v).B = lowByte v := rfl
@[simp] theorem State.set16_K_S (s : State) (v : Word) : (s.set16 .K v).S = s.S := rfl
@[simp] theorem State.set16_K_X (s : State) (v : Word) : (s.set16 .K v).X = s.X := rfl
@[simp] theorem State.set16_K_Y (s : State) (v : Word) : (s.set16 .K v).Y = s.Y := rfl
@[simp] theorem State.set16_K_Z (s : State) (v : Word) : (s.set16 .K v).Z = s.Z := rfl
@[simp] theorem State.set16_K_Q (s : State) (v : Word) : (s.set16 .K v).Q = s.Q := rfl
@[simp] theorem State.set16_K_R (s : State) (v : Word) : (s.set16 .K v).R = s.R := rfl
@[simp] theorem State.set16_S_A (s : State) (v : Word) : (s.set16 .S v).A = s.A := rfl
@[simp] theorem State.set16_S_B (s : State) (v : Word) : (s.set16 .S v).B = s.B := rfl
@[simp] theorem State.set16_S_S (s : State) (v : Word) : (s.set16 .S v).S = v := rfl
@[simp] theorem State.set16_S_X (s : State) (v : Word) : (s.set16 .S v).X = s.X := rfl
@[simp] theorem State.set16_S_Y (s : State) (v : Word) : (s.set16 .S v).Y = s.Y := rfl
@[simp] theorem State.set16_S_Z (s : State) (v : Word) : (s.set16 .S v).Z = s.Z := rfl
@[simp] theorem State.set16_S_Q (s : State) (v : Word) : (s.set16 .S v).Q = s.Q := rfl
@[simp] theorem State.set16_S_R (s : State) (v : Word) : (s.set16 .S v).R = s.R := rfl
@[simp] theorem State.set16_X_A (s : State) (v : Word) : (s.set16 .X v).A = s.A := rfl
@[simp] theorem State.set16_X_B (s : State) (v : Word) : (s.set16 .X v).B = s.B := rfl
@[simp] theorem State.set16_X_S (s : State) (v : Word) : (s.set16 .X v).S = s.S := rfl
@[simp] theorem State.set16_X_X (s : State) (v : Word) : (s.set16 .X v).X = v := rfl
@[simp] theorem State.set16_X_Y (s : State) (v : Word) : (s.set16 .X v).Y = s.Y := rfl
@[simp] theorem State.set16_X_Z (s : State) (v : Word) : (s.set16 .X v).Z = s.Z := rfl
@[simp] theorem State.set16_X_Q (s : State) (v : Word) : (s.set16 .X v).Q = s.Q := rfl
@[simp] theorem State.set16_X_R (s : State) (v : Word) : (s.set16 .X v).R = s.R := rfl
@[simp] theorem State.set16_Y_A (s : State) (v : Word) : (s.set16 .Y v).A = s.A := rfl
@[simp] theorem State.set16_Y_B (s : State) (v : Word) : (s.set16 .Y v).B = s.B := rfl
@[simp] theorem State.set16_Y_S (s : State) (v : Word) : (s.set16 .Y v).S = s.S := rfl
@[simp] theorem State.set16_Y_X (s : State) (v : Word) : (s.set16 .Y v).X = s.X := rfl
@[simp] theorem State.set16_Y_Y (s : State) (v : Word) : (s.set16 .Y v).Y = v := rfl
@[simp] theorem State.set16_Y_Z (s : State) (v : Word) : (s.set16 .Y v).Z = s.Z := rfl
@[simp] theorem State.set16_Y_Q (s : State) (v : Word) : (s.set16 .Y v).Q = s.Q := rfl
@[simp] theorem State.set16_Y_R (s : State) (v : Word) : (s.set16 .Y v).R = s.R := rfl
@[simp] theorem State.set16_Z_A (s : State) (v : Word) : (s.set16 .Z v).A = s.A := rfl
@[simp] theorem State.set16_Z_B (s : State) (v : Word) : (s.set16 .Z v).B = s.B := rfl
@[simp] theorem State.set16_Z_S (s : State) (v : Word) : (s.set16 .Z v).S = s.S := rfl
@[simp] theorem State.set16_Z_X (s : State) (v : Word) : (s.set16 .Z v).X = s.X := rfl
@[simp] theorem State.set16_Z_Y (s : State) (v : Word) : (s.set16 .Z v).Y = s.Y := rfl
@[simp] theorem State.set16_Z_Z (s : State) (v : Word) : (s.set16 .Z v).Z = v := rfl
@[simp] theorem State.set16_Z_Q (s : State) (v : Word) : (s.set16 .Z v).Q = s.Q := rfl
@[simp] theorem State.set16_Z_R (s : State) (v : Word) : (s.set16 .Z v).R = s.R := rfl
@[simp] theorem State.set16_Q_A (s : State) (v : Word) : (s.set16 .Q v).A = s.A := rfl
@[simp] theorem State.set16_Q_B (s : State) (v : Word) : (s.set16 .Q v).B = s.B := rfl
@[simp] theorem State.set16_Q_S (s : State) (v : Word) : (s.set16 .Q v).S = s.S := rfl
@[simp] theorem State.set16_Q_X (s : State) (v : Word) : (s.set16 .Q v).X = s.X := rfl
@[simp] theorem State.set16_Q_Y (s : State) (v : Word) : (s.set16 .Q v).Y = s.Y := rfl
@[simp] theorem State.set16_Q_Z (s : State) (v : Word) : (s.set16 .Q v).Z = s.Z := rfl
@[simp] theorem State.set16_Q_Q (s : State) (v : Word) : (s.set16 .Q v).Q = v := rfl
@[simp] theorem State.set16_Q_R (s : State) (v : Word) : (s.set16 .Q v).R = s.R := rfl
@[simp] theorem State.set16_R_A (s : State) (v : Word) : (s.set16 .R v).A = s.A := rfl
@[simp] theorem State.set16_R_B (s : State) (v : Word) : (s.set16 .R v).B = s.B := rfl
@[simp] theorem State.set16_R_S (s : State) (v : Word) : (s.set16 .R v).S = s.S := rfl
@[simp] theorem State.set16_R_X (s : State) (v : Word) : (s.set16 .R v).X = s.X := rfl
@[simp] theorem State.set16_R_Y (s : State) (v : Word) : (s.set16 .R v).Y = s.Y := rfl
@[simp] theorem State.set16_R_Z (s : State) (v : Word) : (s.set16 .R v).Z = s.Z := rfl
@[simp] theorem State.set16_R_Q (s : State) (v : Word) : (s.set16 .R v).Q = s.Q := rfl
@[simp] theorem State.set16_R_R (s : State) (v : Word) : (s.set16 .R v).R = v := rfl

/-! The aliases. -/

/-- The two bytes of a word, joined again, are the word. -/
@[simp] theorem highByte_append_lowByte (v : Word) : (highByte v ++ lowByte v : Word) = v := by
  apply BitVec.eq_of_getLsbD_eq
  intro i hi
  simp only [highByte, lowByte, BitVec.getLsbD_append, BitVec.getLsbD_extractLsb']
  by_cases h : i < 8
  · simp [h]
  · have h8 : 8 + (i - 8) = i := by omega
    have hi' : i - 8 < 8 := by omega
    simp [h, hi', h8]

/-- The high byte of two joined bytes is the first, the low byte the second. -/
@[simp] theorem highByte_append (a b : Byte) : highByte (a ++ b) = a := by
  apply BitVec.eq_of_getLsbD_eq
  intro i hi
  have h8 : ¬ 8 + i < 8 := by omega
  simp only [highByte, BitVec.getLsbD_extractLsb', BitVec.getLsbD_append, hi, decide_true, Bool.true_and, if_neg h8]
  simp

@[simp] theorem lowByte_append (a b : Byte) : lowByte (a ++ b) = b := by
  apply BitVec.eq_of_getLsbD_eq
  intro i hi
  simp only [lowByte, BitVec.getLsbD_extractLsb', BitVec.getLsbD_append, hi, decide_true, Bool.true_and, Nat.zero_add,
    if_true]

/-- What is written to K is read from K (R23). -/
@[simp] theorem State.setK_K (s : State) (v : Word) : (s.setK v).K = v := highByte_append_lowByte v

@[simp] theorem State.set16_K_K (s : State) (v : Word) : (s.set16 .K v).K = v := highByte_append_lowByte v

@[simp] theorem State.retireWith_K (s : State) (op : Byte) (target : Word) (n : Nat) (b : BusActivity) :
    (s.retireWith op target n b).K = s.K := rfl

@[simp] theorem State.retire_K (s : State) (target : Word) (n : Nat) (o : Option Word) :
    (s.retire target n o).K = s.K := rfl

@[simp] theorem State.advance1_K (s : State) (n : Nat) : (s.advance1 n).K = s.K := rfl

@[simp] theorem State.advance2_K (s : State) (n : Nat) : (s.advance2 n).K = s.K := rfl

/-- Bit 15 of K is U, bit 7 of A (R24). -/
theorem State.U_eq_K15 (s : State) : s.U = s.K.getLsbD 15 := by
  simp only [State.U, State.K, BitVec.getLsbD_append]
  rfl

/-- `U <- u` makes U what it says and leaves the other bits of A (R24). -/
theorem withBit7_getLsbD (u : Bool) (v : Byte) (i : Nat) (hi : i < 8) :
    (withBit7 u v).getLsbD i = if i = 7 then u else v.getLsbD i := by
  have h : ∀ j : Fin 8, ∀ u : Bool, ∀ v : Byte,
      (withBit7 u v).getLsbD j.val = if j.val = 7 then u else v.getLsbD j.val := by decide
  exact h ⟨i, hi⟩ u v

@[simp] theorem State.setU_U (s : State) (u : Bool) : (s.setU u).U = u :=
  (withBit7_getLsbD u s.A 7 (by decide)).trans (if_pos rfl)

/-- A named 16-bit register reads what was written to it. -/
@[simp] theorem State.get16_set16_same (s : State) (r : Reg16) (v : Word) : (s.set16 r v).get16 r = v := by
  cases r <;> first | rfl | exact State.setK_K s v

/-- A write of one named 16-bit register leaves the others. -/
theorem State.get16_set16_other (s : State) (r q : Reg16) (v : Word) (h : q ≠ r) :
    (s.set16 r v).get16 q = s.get16 q := by
  cases r <;> cases q <;> first | rfl | exact absurd rfl h

end Sys2Proof.Machine
end

