-- ==== Sys2Proof/Laws/Ops.lean ====
section
/-! SUPPORT. One lemma for each shared operation: if it answers a next state, this is everything it has done. -/

namespace Sys2Proof.Machine

/-- The next instruction stands at `target`, its opcode read there by the platform after the operand, if there is one;
cycles and bus as said, and no other access. -/
def Retired (target : Word) (n : Nat) (operand : Option Word) (s t : State) : Prop :=
  t.P = target ∧ (t.IR, t.platform) = s.platform.fetchAfter operand (n - 1 - operand.toList.length) target
    ∧ t.cycles = s.cycles + n
    ∧ t.bus = { fetch := target, operand := operand, data := none, unstated := n - 1 - operand.toList.length }

/-- How an instruction with this second operand ends (R52, R457). -/
def Source8.Retired (src : Source8) (s t : State) : Prop :=
  match src with
  | .B => Machine.Retired (s.P + 1) 1 none s t
  | .imm _ => Machine.Retired (s.P + 2) 2 (some (s.P + 1)) s t
  | .mem r => t.P = s.P + 1
      ∧ (s.dataByte r, t.IR, t.platform) = s.platform.readAndFetch r.readType (s.get16 r.reg) (s.P + 1)
      ∧ t.cycles = s.cycles + 2
      ∧ t.bus = { fetch := s.P + 1, operand := none, unstated := 0,
                  data := some { type := r.readType, addr := s.get16 r.reg, byte := s.dataByte r } }

/-- The parts of State a named 16-bit register stands for (R23). -/
def Reg16.parts : Reg16 → List Part
  | .K => [.A, .B] | .S => [.S] | .X => [.X] | .Y => [.Y] | .Z => [.Z] | .Q => [.Q] | .R => [.R]

/-- On the default platform a read with any bus type is the byte of memory at the address (R56). -/
theorem State.memRead_default {s : State} (h : s.onDefault) (t : BusType) (a : Word) : s.memRead t a = s.byteAt a := by
  simp only [State.memRead, Platform.read_default h, State.byteAt]

/-- On the default platform a data read is the byte of memory, whichever way FETCH_ORDER is (R56, D13). -/
theorem State.dataByte_default {s : State} (h : s.onDefault) (r : PtrReg) : s.dataByte r = s.byteAt (s.get16 r.reg) := by
  simp only [State.dataByte, Platform.readAndFetch_default h, State.byteAt]

theorem KeepsMemory.of_mem {s t : State} (h : t.platform.mem = s.platform.mem) : KeepsMemory s t :=
  fun a => by simp only [State.byteAt, h]

/-- An instruction of no other access than its operand and the following opcode leaves memory alone. -/
theorem Retired.keepsMemory {target : Word} {n : Nat} {o : Option Word} {s t : State} (h : Retired target n o s t) :
    KeepsMemory s t :=
  have e : t.platform = _ := congrArg Prod.snd h.2.1
  KeepsMemory.of_mem (e ▸ Platform.fetchAfter_mem _ _ _ _)

/-- On the default platform it prefetches the byte of memory at its target and leaves the platform as it was. -/
theorem Retired.onDefault {target : Word} {n : Nat} {o : Option Word} {s t : State} (h : Retired target n o s t)
    (hd : s.onDefault) : t.IR = t.byteAt t.P ∧ t.platform = s.platform := by
  have e : (t.IR, t.platform) = (s.platform.mem.get target.toNat, s.platform) :=
    h.2.1.trans (Platform.fetchAfter_default hd _ _ _)
  have hp : t.platform = s.platform := congrArg Prod.snd e
  have hi : t.IR = s.platform.mem.get target.toNat := congrArg Prod.fst e
  exact ⟨by rw [hi, State.byteAt, hp, h.1], hp⟩

/-- The end of an instruction changes none of the parts a frame speaks of. -/
theorem KeepsBut.retire {written : List Part} {s u : State} (h : KeepsBut written s u) (target : Word) (n : Nat)
    (o : Option Word) : KeepsBut written s (u.retire target n o) := by
  intro p hp
  have := h p hp
  cases p <;> first | exact this | simpa [Part.same] using this

theorem KeepsBut.advanceRead {written : List Part} {s u : State} (h : KeepsBut written s u) (r : PtrReg) :
    KeepsBut written s (u.advanceRead r) := by
  intro p hp
  have := h p hp
  cases p <;> first | exact this | simpa [Part.same] using this

theorem KeepsBut.retireSignals {written : List Part} {s u : State} (h : KeepsBut written s u)
    (l : List (BusType × BusType)) : KeepsBut written s (u.retireSignals s l) := by
  intro p hp
  have := h p hp
  cases p <;> exact this

/-- An instruction that answers a retired state runs as the statements say it. -/
theorem Runs.of_retired {i : Instr} {target : Int} {n : Nat} {o : Option Word} {written : List Part} {s t : State}
    {post : State → Prop} {next : Word} (h : exec i s = .next t) (hp : post t) (hr : Retired next n o s t)
    (ht : (next.toNat : Int) = target % 65536) (hk : KeepsBut written s t) : Runs i target n o written s post :=
  ⟨t, h, hp, ⟨hr.1 ▸ ht, hr.2.2.1, hr.1 ▸ hr.2.2.2⟩, hr.1 ▸ hr.2.1, hk, hr.keepsMemory, hr.onDefault⟩

/-- The same of an instruction that signals: `u` is the state before its end. -/
theorem RunsSignals.of_retireSignals {i : Instr} {op : Byte} {cycles : List (BusType × BusType)}
    {signals : List PlatformAction} {written : List Part} {s u : State} {post : State → Prop} (he : IsEncodedAs i [op])
    (h : exec i s = .next (u.retireSignals s cycles)) (hp : post (u.retireSignals s cycles)) (hc : u.cycles = s.cycles)
    (hu : u.platform = (s.platform.read .FE (s.P + 1)).2.run signals) (hm : u.platform.mem = s.platform.mem)
    (hk : KeepsBut written s u) : RunsSignals i op cycles signals written s post := by
  refine ⟨he, u.retireSignals s cycles, h, hp, ⟨?_, ?_, ?_⟩, ?_, ?_, ?_, hk.retireSignals cycles, KeepsMemory.of_mem ?_,
    fun hd => ?_⟩
  · simp [BitVec.toNat_add]
  · simp [hc]
  · simp
  · simp
  · simp [State.memRead]
  · simpa using hu
  · simpa using hm
  · simp [State.byteAt, hm, State.memRead_default hd]

/-- The same of an instruction that reads a byte through the address register `r`. -/
theorem RunsLoad.of_advanceRead {i : Instr} {op : Byte} {r : PtrReg} {written : List Part} {s u : State}
    {post : Byte → State → Prop} (he : IsEncodedAs i [op]) (h : exec i s = .next (u.advanceRead r))
    (hu : u.platform = s.platform ∧ u.P = s.P ∧ u.get16 r.reg = s.get16 r.reg ∧ u.cycles = s.cycles)
    (hp : post (s.dataByte r) (u.advanceRead r)) (hk : KeepsBut written s (u.advanceRead r)) :
    RunsLoad i op r.readType (s.get16 r.reg) written s post := by
  obtain ⟨h1, h2, h3, h4⟩ := hu
  have hd : u.dataByte r = s.dataByte r := by simp only [State.dataByte, h1, h2, h3]
  refine ⟨he, s.dataByte r, u.advanceRead r, h, hp, ⟨?_, ?_, ?_⟩, ?_, hk, KeepsMemory.of_mem ?_, fun hs => ?_⟩
  · rw [State.advanceRead_P, h2]
    simp [BitVec.toNat_add]
  · rw [State.advanceRead_cycles, h4]
  · rw [State.advanceRead_bus, State.advanceRead_P, h2, h3, hd]
  · rw [State.advanceRead_IR, State.advanceRead_platform, State.advanceRead_P, h1, h2, h3]
    rfl
  · rw [State.advanceRead_platform, Platform.readAndFetch_mem, h1]
  · refine ⟨State.dataByte_default hs r, ?_⟩
    simp only [State.advanceRead_IR, State.byteAt, State.advanceRead_platform, State.advanceRead_P, h1, h2, h3,
      Platform.readAndFetch_default hs, and_self]

/-! Operations of the ALU shape. -/

theorem alu8_next {f : Byte → Byte → Byte} {src : Source8} {s t : State} (h : alu8 f src s = .next t) :
    t.A = f s.A (src.value s) ∧ src.Retired s t ∧ KeepsBut [.A] s t := by
  rcases src with _ | _ | ⟨_ | _ | _⟩ <;> cases h <;> exact ⟨rfl, ⟨rfl, rfl, rfl, rfl⟩,
    fun p hp => by cases p <;> first | rfl | exact absurd (by decide) hp | simp [Part.same, Source8.retire]⟩

theorem alu8V_next {f : Byte → Byte → Bool → Byte × Bool} {src : Source8} {s t : State}
    (h : alu8V f src s = .next t) :
    (t.A, t.V) = f s.A (src.value s) s.V ∧ src.Retired s t ∧ KeepsBut [.A, .V] s t := by
  rcases src with _ | _ | ⟨_ | _ | _⟩ <;> cases h <;> exact ⟨rfl, ⟨rfl, rfl, rfl, rfl⟩,
    fun p hp => by cases p <;> first | rfl | exact absurd (by decide) hp | simp [Part.same, Source8.retire]⟩

theorem storeA_next {r : PtrReg} {s t : State} (h : storeA r s = .next t) :
    t.P = s.P + 1 ∧ (t.IR, t.platform) = s.platform.writeAndFetch r.writeType (s.get16 r.reg) s.A (s.P + 1)
      ∧ t.cycles = s.cycles + 2
      ∧ t.bus = { fetch := s.P + 1, operand := none, unstated := 0,
                  data := some { type := r.writeType, addr := s.get16 r.reg, byte := s.A } }
      ∧ KeepsBut [] s t := by
  cases h
  exact ⟨rfl, rfl, rfl, rfl, fun p _ => by cases p <;> first | rfl | simp [Part.same]⟩

/-! Writes of registers. -/

theorem writeA_next {v : Byte} {s t : State} (h : writeA v s = .next t) :
    t.A = v ∧ Retired (s.P + 1) 1 none s t ∧ KeepsBut [.A] s t := by
  cases h; exact ⟨rfl, ⟨rfl, rfl, rfl, rfl⟩,
      fun p hp => by cases p <;> first | rfl | exact absurd (by decide) hp | simp [Part.same]⟩

theorem writeB_next {v : Byte} {s t : State} (h : writeB v s = .next t) :
    t.B = v ∧ Retired (s.P + 1) 1 none s t ∧ KeepsBut [.B] s t := by
  cases h; exact ⟨rfl, ⟨rfl, rfl, rfl, rfl⟩,
      fun p hp => by cases p <;> first | rfl | exact absurd (by decide) hp | simp [Part.same]⟩

theorem writeV_next {c : Bool} {s t : State} (h : writeV c s = .next t) :
    t.V = c ∧ Retired (s.P + 1) 1 none s t ∧ KeepsBut [.V] s t := by
  cases h; exact ⟨rfl, ⟨rfl, rfl, rfl, rfl⟩,
      fun p hp => by cases p <;> first | rfl | exact absurd (by decide) hp | simp [Part.same]⟩

theorem writeU_next {u : Bool} {s t : State} (h : writeU u s = .next t) :
    t.A = withBit7 u s.A ∧ Retired (s.P + 1) 1 none s t ∧ KeepsBut [.A] s t := by
  cases h; exact ⟨rfl, ⟨rfl, rfl, rfl, rfl⟩,
      fun p hp => by cases p <;> first | rfl | exact absurd (by decide) hp | simp [Part.same]⟩

theorem writeAV_next {x : Byte × Bool} {s t : State} (h : writeAV x s = .next t) :
    t.A = x.1 ∧ t.V = x.2 ∧ Retired (s.P + 1) 1 none s t ∧ KeepsBut [.A, .V] s t := by
  cases h
  exact ⟨rfl, rfl, ⟨rfl, rfl, rfl, rfl⟩,
      fun p hp => by cases p <;> first | rfl | exact absurd (by decide) hp | simp [Part.same]⟩

theorem writeBV_next {x : Byte × Bool} {s t : State} (h : writeBV x s = .next t) :
    t.B = x.1 ∧ t.V = x.2 ∧ Retired (s.P + 1) 1 none s t ∧ KeepsBut [.B, .V] s t := by
  cases h
  exact ⟨rfl, rfl, ⟨rfl, rfl, rfl, rfl⟩,
      fun p hp => by cases p <;> first | rfl | exact absurd (by decide) hp | simp [Part.same]⟩

theorem writeKV_next {x : Word × Bool} {s t : State} (h : writeKV x s = .next t) :
    t.K = x.1 ∧ t.V = x.2 ∧ Retired (s.P + 1) 1 none s t ∧ KeepsBut [.A, .B, .V] s t := by
  cases h
  exact ⟨highByte_append_lowByte x.1, rfl, ⟨rfl, rfl, rfl, rfl⟩,
    fun p hp => by cases p <;> first | rfl | exact absurd (by decide) hp | simp [Part.same]⟩

theorem write16_next {r : Reg16} {v : Word} {s t : State} (h : write16 r v s = .next t) :
    t.get16 r = v ∧ Retired (s.P + 1) 1 none s t ∧ KeepsBut r.parts s t := by
  cases r <;> cases h <;> exact ⟨by first | rfl | exact highByte_append_lowByte v, ⟨rfl, rfl, rfl, rfl⟩,
    fun p hp => by cases p <;> first | rfl | exact absurd (by decide) hp | simp [Part.same]⟩

theorem write16imm_next {r : Reg16} {v : Word} {s t : State} (h : write16imm r v s = .next t) :
    t.get16 r = v ∧ Retired (s.P + 2) 2 (some (s.P + 1)) s t ∧ KeepsBut r.parts s t := by
  cases r <;> cases h <;> exact ⟨by first | rfl | exact highByte_append_lowByte v, ⟨rfl, rfl, rfl, rfl⟩,
    fun p hp => by cases p <;> first | rfl | exact absurd (by decide) hp | simp [Part.same]⟩

theorem exchange16_next {r q : Reg16} {s t : State} (hrq : r ≠ q) (h : exchange16 r q s = .next t) :
    t.get16 r = s.get16 q ∧ t.get16 q = s.get16 r ∧ Retired (s.P + 1) 1 none s t
      ∧ KeepsBut (r.parts ++ q.parts) s t := by
  cases r <;> cases q <;> first
    | exact absurd rfl hrq
    | (cases h
       exact ⟨by first | rfl | exact highByte_append_lowByte _, by first | rfl | exact highByte_append_lowByte _,
         ⟨rfl, rfl, rfl, rfl⟩, fun p hp => by cases p <;> first | rfl | exact absurd (by decide) hp | simp [Part.same]⟩)

theorem write16swapAB_next {r : PtrReg} {v : Word} {s t : State} (h : write16swapAB r.reg v s = .next t) :
    t.get16 r.reg = v ∧ t.A = s.B ∧ t.B = s.A ∧ Retired (s.P + 1) 1 none s t
      ∧ KeepsBut (.A :: .B :: r.reg.parts) s t := by
  cases r <;> cases h <;> exact ⟨rfl, rfl, rfl, ⟨rfl, rfl, rfl, rfl⟩,
    fun p hp => by cases p <;> first | rfl | exact absurd (by decide) hp | simp [Part.same]⟩

theorem idle1_next {n : Nat} {s t : State} (h : idle1 n s = .next t) :
    Retired (s.P + 1) n none s t ∧ KeepsBut [] s t := by
  cases h; exact ⟨⟨rfl, rfl, rfl, rfl⟩, fun p _ => by cases p <;> first | rfl | simp [Part.same]⟩

theorem idle2_next {n : Nat} {s t : State} (h : idle2 n s = .next t) :
    Retired (s.P + 2) n (some (s.P + 1)) s t ∧ KeepsBut [] s t := by
  cases h; exact ⟨⟨rfl, rfl, rfl, rfl⟩, fun p _ => by cases p <;> first | rfl | simp [Part.same]⟩

/-! Control transfer. -/

/-- Does the branch on this condition clear V (R291 (c))? -/
def Cond.testsV : Cond → Bool
  | .VZ => true | .VS => true
  | .WY => false | .UZ => false | .US => false | .AZ => false | .AS => false | .KZ => false | .KS => false

@[simp] theorem State.afterCond_platform (s : State) (c : Cond) : (s.afterCond c).platform = s.platform := by
  cases c <;> rfl

theorem branch_next {c : Cond} {target : Word} {s t : State} (h : branch c target s = .next t) :
    Retired (if s.holds c then target else s.P + 2) (if s.holds c then 3 else 2) (some (s.P + 1)) s t
      ∧ t.V = (if c.testsV then false else s.V) ∧ KeepsBut [.V] s t := by
  unfold branch at h
  split at h <;> rename_i hc <;> cases c <;> cases h <;> simp only [hc] <;>
    exact ⟨⟨rfl, rfl, rfl, rfl⟩, rfl,
        fun p hp => by cases p <;> first | rfl | exact absurd (by decide) hp | simp [Part.same]⟩

theorem jumpR_next {c : Cond} {s t : State} (h : jumpR c s = .next t) :
    Retired (if s.holds c then s.R else s.P + 1) 1 none s t
      ∧ t.V = (if c.testsV then false else s.V) ∧ KeepsBut [.V] s t := by
  unfold jumpR at h
  split at h <;> rename_i hc <;> cases c <;> cases h <;> simp only [hc] <;>
    exact ⟨⟨rfl, rfl, rfl, rfl⟩, rfl,
        fun p hp => by cases p <;> first | rfl | exact absurd (by decide) hp | simp [Part.same]⟩

theorem countBranch_next {nn : Byte} {s t : State} (h : countBranch nn s = .next t) :
    (s.S ≠ 0 ∧ t.S = s.S - 1 ∧ Retired (s.backward nn) 3 (some (s.P + 1)) s t
        ∨ s.S = 0 ∧ t.S = 0 ∧ Retired (s.P + 2) 2 (some (s.P + 1)) s t)
      ∧ KeepsBut [.S] s t := by
  unfold countBranch at h
  split at h
  · next hs =>
    cases h
    exact ⟨.inl ⟨hs, rfl, rfl, rfl, rfl, rfl⟩,
      fun p hp => by cases p <;> first | rfl | exact absurd (by decide) hp | simp [Part.same]⟩
  · next hs =>
    have h0 : s.S = 0 := not_not.mp hs
    cases h
    exact ⟨.inr ⟨h0, h0, rfl, rfl, rfl, rfl⟩,
      fun p _ => by cases p <;> first | rfl | simp [Part.same]⟩

/-- A counting jump whose step writes one 16-bit register `q`, or nothing. -/
theorem countJumpR_next {step : State → State} {s t : State} (h : countJumpR step s = .next t) :
    s.S ≠ 0 ∧ t = (step (s.set16 .S (s.S - 1))).retire s.R 1 none
      ∨ s.S = 0 ∧ Retired (s.P + 1) 1 none s t ∧ KeepsBut [] s t := by
  unfold countJumpR at h
  split at h
  · next hs => cases h; exact .inl ⟨hs, rfl⟩
  · next hs =>
    cases h
    exact .inr ⟨not_not.mp hs, ⟨rfl, rfl, rfl, rfl⟩, fun p _ => by cases p <;> first | rfl | simp [Part.same]⟩

theorem switchPage_next {r : PtrReg} {s t : State} (h : switchPage r s = .next t) :
    t.P = s.P + 1 ∧ t.IR = s.memRead .FE (s.P + 1)
      ∧ t.platform = (s.platform.read .FE (s.P + 1)).2.pageSwitch r.pageType .FE
      ∧ t.cycles = s.cycles + 1 ∧ t.fullCycles = some [(.FE, r.pageType)]
      ∧ t.bus = { fetch := s.P + 1, operand := none, data := none, unstated := 0 } ∧ KeepsBut [.events] s t := by
  cases h
  exact ⟨rfl, rfl, rfl, rfl, rfl, rfl,
    fun p hp => by cases p <;> first | rfl | exact absurd (by decide) hp | simp [Part.same]⟩

/-! Reset. -/

/-- What a taken reset leaves: the loaded registers, the free ones, and a platform that a prefix of the actions of the
abandoned instruction has reached (R38, R402, R404). -/
theorem takeReset_eq (s : State) (r : ResetInput) :
    (s.takeReset r).P = r.start ∧ (s.takeReset r).R = r.start ∧ (s.takeReset r).A = r.a0
      ∧ (s.takeReset r).halted = false ∧ (s.takeReset r).res = none
      ∧ ((s.takeReset r).IR, (s.takeReset r).platform) = s.abandon.platform.read .FE r.start
      ∧ (s.takeReset r).cycles = s.cycles ∧ (s.takeReset r).resetCount = s.resetCount + 1 := by
  refine ⟨rfl, rfl, rfl, rfl, rfl, rfl, ?_, rfl⟩
  show s.abandon.cycles = s.cycles
  unfold State.abandon
  split <;> rfl

/-- A halted CPU abandons nothing. -/
theorem abandon_halted {s : State} (h : s.halted = true) : s.abandon = s := by
  simp [State.abandon, h]

/-- Every list of actions the abandoned instruction may have done keeps the canonical form. -/
theorem abandon_wf {s : State} (h : s.platform.mem.wf = true) : s.abandon.platform.mem.wf = true := by
  unfold State.abandon
  split
  · exact h
  · exact Platform.run_wf _ _ h

end Sys2Proof.Machine
end

