-- ==== Sys2Proof/Laws/Exec.lean ====
section
/-! SUPPORT. What any instruction does to the platform: exactly its platform actions, in their order (R55). So the prefix of
them that an abandoned instruction has done (`State.abandon`) is a prefix of what it does. -/

namespace Sys2Proof.Machine

theorem Platform.run_append (pi : Platform) (as bs : List PlatformAction) : pi.run (as ++ bs) = (pi.run as).run bs := by
  induction as generalizing pi with
  | nil => rfl
  | cons a as ih => exact ih (pi.act a)

/-! The ends of an instruction: the platform has seen the recorded accesses, in their order. -/

/-- The accesses of this state's last instruction, which began on the platform `pi`, are those it records. -/
def State.Follows (t : State) (pi : Platform) : Prop := t.platform = pi.run t.bus.actions

theorem Retired.follows {target : Word} {n : Nat} {o : Option Word} {s t : State} (h : Retired target n o s t) :
    t.Follows s.platform := by
  have e : t.platform = (s.platform.fetchAfter o (n - 1 - o.toList.length) target).2 := congrArg Prod.snd h.2.1
  rw [State.Follows, e, h.2.2.2]
  cases o <;> rfl

theorem State.retire_follows (s : State) (target : Word) (n : Nat) (o : Option Word) :
    (s.retire target n o).Follows s.platform := Retired.follows ⟨rfl, rfl, rfl, rfl⟩

theorem State.advanceRead_follows (s : State) (r : PtrReg) : (s.advanceRead r).Follows s.platform := by
  simp only [State.Follows, State.advanceRead_platform, State.advanceRead_bus, BusActivity.actions,
    Platform.readAndFetch, inFetchOrder_eq]
  cases Config.fetchOrder <;> cases r <;> rfl

theorem State.advanceWrite_follows (s : State) (r : PtrReg) (v : Byte) : (s.advanceWrite r v).Follows s.platform := by
  simp only [State.Follows, State.advanceWrite_platform, State.advanceWrite_bus, BusActivity.actions,
    Platform.writeAndFetch, inFetchOrder_eq]
  cases Config.fetchOrder <;> cases r <;> rfl

theorem countJumpR_follows {step : State → State} {s t : State} (h : countJumpR step s = .next t)
    (hstep : ∀ u, (step u).platform = u.platform) : t.Follows s.platform := by
  rcases countJumpR_next h with ⟨-, rfl⟩ | ⟨-, hr, -⟩
  · have e : (step (s.set16 .S (s.S - 1))).platform = s.platform := by rw [hstep, State.set16_platform]
    exact e ▸ State.retire_follows _ _ _ _
  · exact hr.follows

theorem countBranch_follows {nn : Byte} {s t : State} (h : countBranch nn s = .next t) : t.Follows s.platform := by
  rcases (countBranch_next h).1 with ⟨-, -, hr⟩ | ⟨-, -, hr⟩ <;> exact hr.follows

/-! `H..`. -/

/-- `H..` before a `J..` (R334). -/
theorem execH_of_jump {s : State} (h : s.memRead .FE (s.P + 1) = 0xff) :
    execH s = .next ((s.fetchNext.pageSwitch .BP .FE).retireSignals s [(.FE, .BP)]) := by
  simp only [execH, h, if_true]

/-- `H..` before an `H..` (R336). -/
theorem execH_of_halt {s : State} (h : s.memRead .FE (s.P + 1) = 0x00) :
    execH s = .next (((s.fetchNext.pageSwitch .BP .FE).kOut s.K).halt.retireSignals s
      [(.FE, .BP), (.KA, .BN)]) := by
  simp only [execH, h, if_neg (show ¬ (0x00 : Byte) = 0xff by decide), if_true]

/-- `H..` before any other opcode (R335). -/
theorem execH_of_input {s : State} (h1 : s.memRead .FE (s.P + 1) ≠ 0xff) (h2 : s.memRead .FE (s.P + 1) ≠ 0x00) :
    execH s = .next ((((s.fetchNext.pageSwitch .BP .FE).inputA s.K).pageSwitch .BP .HA).retireSignals s
      [(.FE, .BP), (.HA, .BP)]) :=
  (if_neg h1).trans (if_neg h2)

/-- The only reads of an instruction that signals are those of the following opcode. -/
theorem run_fetch (pi : Platform) (a : Word) :
    pi.run (BusActivity.actions { fetch := a, operand := none, data := none, unstated := 0 })
      = (pi.read .FE a).2 := by
  have hu : ∀ (q : Platform) (b : Bool), q.unstated b 0 = q := fun q b => by
    cases q with
    | mk e _ _ _ _ _ => cases e <;> rfl
  show (((pi.unstated false 0).read .FE a).2).unstated true 0 = _
  rw [hu, hu]

theorem execH_platform {s t : State} (h : execH s = .next t) :
    t.platform = s.platform.run (t.bus.actions ++ s.signals .h t.IR) := by
  by_cases h1 : s.memRead .FE (s.P + 1) = 0xff
  · rw [execH_of_jump h1] at h
    cases h
    rw [Platform.run_append, State.retireSignals_bus, run_fetch, State.retireSignals_IR, h1]
    rfl
  · by_cases h2 : s.memRead .FE (s.P + 1) = 0x00
    · rw [execH_of_halt h2] at h
      cases h
      rw [Platform.run_append, State.retireSignals_bus, run_fetch, State.retireSignals_IR, h2]
      rfl
    · rw [execH_of_input h1 h2] at h
      cases h
      have hs : s.signals .h (s.memRead .FE (s.P + 1))
          = [.pageSwitch .BP .FE, .ioRead s.K, .pageSwitch .BP .HA] := (if_neg h1).trans (if_neg h2)
      rw [Platform.run_append, State.retireSignals_bus, run_fetch, State.retireSignals_IR, hs]
      rfl

theorem switchPage_platform {r : PtrReg} {s t : State} (h : switchPage r s = .next t) :
    t.platform = s.platform.run (t.bus.actions ++ [.pageSwitch r.pageType .FE]) := by
  obtain ⟨-, -, hp, -, -, hb, -⟩ := switchPage_next h
  rw [Platform.run_append, hb, run_fetch, hp]
  rfl

/-! Any instruction. -/

/-- An instruction that shows the platform nothing but its accesses. -/
theorem follows_append {i : Instr} {s t : State} (h : t.Follows s.platform) (hi : s.signals i t.IR = []) :
    t.platform = s.platform.run (t.bus.actions ++ s.signals i t.IR) := by
  rw [hi, List.append_nil]
  exact h

/-- What any instruction does to the platform. -/
theorem exec_platform (i : Instr) (s t : State) (h : exec i s = .next t) :
    t.platform = s.platform.run (s.platformActions i) := by
  simp only [State.platformActions, h]
  cases i
  case h => exact execH_platform h
  case swX | swY | swZ => exact switchPage_platform h
  all_goals refine follows_append ?_ rfl
  case anmx | anmy | anmz | nrmx | nrmy | nrmz | xrmx | xrmy | xrmz | gtmx | gtmy | gtmz | avmx | avmy | avmz | svmx
      | svmy | svmz | lvmx | lvmy | lvmz =>
    cases h; exact State.advanceRead_follows _ _
  case stmx | stmy | stmz => cases h; exact State.advanceWrite_follows _ _ _
  case oVZ | oVS | oUZ | oUS | oAZ | oAS | oKZ | oKS | bVZ | bVS | bUZ | bUS | bAZ | bAS | bKZ | bKS =>
    exact (branch_next h).1.follows
  case rVZ | rVS | rUZ | rUS | rAZ | rAS | rKZ | rKS => exact (jumpR_next h).1.follows
  case bCN => exact countBranch_follows h
  case rCN => exact countJumpR_follows h (fun _ => rfl)
  case rIX | rIY | rIZ | rDX | rDY | rDZ =>
    simp only [exec, execRIX, execRDX, execRIY, execRDY, execRIZ, execRDZ] at h
    exact countJumpR_follows h (fun _ => rfl)
  case nol => simp only [exec, execNol] at h; split at h <;> cases h <;> exact State.retire_follows _ _ _ _
  all_goals (cases h; exact State.retire_follows _ _ _ _)

/-- Every instruction keeps the canonical form of memory. -/
theorem exec_wf (i : Instr) (s t : State) (h : exec i s = .next t) (hs : s.platform.mem.wf = true) :
    t.platform.mem.wf = true := by
  rw [exec_platform i s t h]
  exact Platform.run_wf _ _ hs

/-- Every instruction leaves the default platform the default one. -/
theorem exec_onDefault (i : Instr) (s t : State) (h : exec i s = .next t) (hs : s.onDefault) : t.onDefault := by
  rw [State.onDefault, exec_platform i s t h]
  exact Platform.run_default hs _

end Sys2Proof.Machine
end

