-- ==== Sys2Proof/Laws/Flags.lean ====
section
/-! SUPPORT. What the flag computations and the bit rearrangements give, in terms of numbers and of single bits. -/

namespace Sys2Proof.Machine

/-- The low `w` bits of a number of `w + 1` bits and its top bit make the number. -/
theorem low_add_top {w : Nat} (t : BitVec (w + 1)) :
    (t.setWidth w).toNat + 2 ^ w * (t.getLsbD w).toNat = t.toNat := by
  have h2 : 2 ^ (w + 1) = 2 ^ w * 2 := Nat.pow_succ 2 w
  have hlt : t.toNat / 2 ^ w < 2 := Nat.div_lt_of_lt_mul (h2 ▸ t.isLt)
  have htop : (t.getLsbD w).toNat = t.toNat / 2 ^ w := by
    have hbit : t.getLsbD w = decide (t.toNat / 2 ^ w % 2 = 1) := by
      simp [BitVec.getLsbD, Nat.testBit_eq_decide_div_mod_eq]
    rw [hbit]
    rcases Nat.le_one_iff_eq_zero_or_eq_one.mp (Nat.lt_succ_iff.mp hlt) with h | h <;> simp [h]
  rw [htop, BitVec.toNat_setWidth]
  exact Nat.mod_add_div t.toNat (2 ^ w)

/-- An operand widened by one bit keeps its value. -/
theorem toNat_widen {w : Nat} (a : BitVec w) : (a.setWidth (w + 1)).toNat = a.toNat := by
  rw [BitVec.toNat_setWidth, Nat.mod_eq_of_lt]
  have h2 : 2 ^ (w + 1) = 2 ^ w * 2 := Nat.pow_succ 2 w
  have := a.isLt
  omega

/-- The carry widened keeps its value. -/
theorem toNat_widenBool (w : Nat) (c : Bool) : ((BitVec.ofBool c).setWidth (w + 1)).toNat = c.toNat := by
  have hp : 0 < 2 ^ w := Nat.two_pow_pos w
  have h2 : 2 ^ (w + 1) = 2 ^ w * 2 := Nat.pow_succ 2 w
  cases c
  · simp
  · simp only [BitVec.ofBool_true, BitVec.toNat_setWidth, Bool.toNat_true]
    exact Nat.mod_eq_of_lt (show 1 < 2 ^ (w + 1) by omega)

/-- `a + b + c` (R9): the result and the carry out together are the exact sum. -/
theorem addCarry_sum {w : Nat} (a b : BitVec w) (c : Bool) :
    (addCarry a b c).1.toNat + 2 ^ w * (addCarry a b c).2.toNat = a.toNat + b.toNat + c.toNat := by
  have h2 : 2 ^ (w + 1) = 2 ^ w * 2 := Nat.pow_succ 2 w
  have ha := a.isLt
  have hb := b.isLt
  have hc : c.toNat ≤ 1 := by cases c <;> simp
  simp only [addCarry]
  rw [low_add_top, BitVec.toNat_add, BitVec.toNat_add, toNat_widen, toNat_widen, toNat_widenBool]
  rw [Nat.mod_eq_of_lt (a := a.toNat + b.toNat) (by omega), Nat.mod_eq_of_lt (by omega)]

/-- `a - b - c` (R9, D5): the result less the weight of the borrow out is the exact difference. -/
theorem subBorrow_difference {w : Nat} (a b : BitVec w) (c : Bool) :
    ((subBorrow a b c).1.toNat : Int) - 2 ^ w * (subBorrow a b c).2.toNat = a.toNat - b.toNat - c.toNat := by
  have h2 : 2 ^ (w + 1) = 2 ^ w * 2 := Nat.pow_succ 2 w
  have hp : 0 < 2 ^ w := Nat.two_pow_pos w
  have ha := a.isLt
  have hb := b.isLt
  have hc : c.toNat ≤ 1 := by cases c <;> simp
  simp only [subBorrow]
  generalize hd : a.setWidth (w + 1) - b.setWidth (w + 1) - (BitVec.ofBool c).setWidth (w + 1) = d
  have hsum := low_add_top d
  have hlow : (d.setWidth w).toNat < 2 ^ w := (d.setWidth w).isLt
  have hdlt : d.toNat < 2 ^ w * 2 := h2 ▸ d.isLt
  have hdn : d.toNat = a.toNat - b.toNat - c.toNat ∧ b.toNat + c.toNat ≤ a.toNat
      ∨ d.toNat + b.toNat + c.toNat = a.toNat + 2 ^ w * 2 ∧ a.toNat < b.toNat + c.toNat := by
    have e : d.toNat = (2 ^ w * 2 - c.toNat + (2 ^ w * 2 - b.toNat + a.toNat) % (2 ^ w * 2)) % (2 ^ w * 2) := by
      rw [← hd, BitVec.toNat_sub, BitVec.toNat_sub, toNat_widen, toNat_widen, toNat_widenBool, h2]
    by_cases h1 : b.toNat ≤ a.toNat
    · have e1 : (2 ^ w * 2 - b.toNat + a.toNat) % (2 ^ w * 2) = a.toNat - b.toNat := by
        rw [show 2 ^ w * 2 - b.toNat + a.toNat = 2 ^ w * 2 + (a.toNat - b.toNat) by omega, Nat.add_mod_left,
          Nat.mod_eq_of_lt (by omega)]
      rw [e1] at e
      by_cases h3 : c.toNat ≤ a.toNat - b.toNat
      · rw [show 2 ^ w * 2 - c.toNat + (a.toNat - b.toNat) = 2 ^ w * 2 + (a.toNat - b.toNat - c.toNat) by omega,
          Nat.add_mod_left, Nat.mod_eq_of_lt (by omega)] at e
        omega
      · rw [Nat.mod_eq_of_lt (by omega)] at e
        omega
    · have e1 : (2 ^ w * 2 - b.toNat + a.toNat) % (2 ^ w * 2) = 2 ^ w * 2 - b.toNat + a.toNat :=
        Nat.mod_eq_of_lt (by omega)
      rw [e1, show 2 ^ w * 2 - c.toNat + (2 ^ w * 2 - b.toNat + a.toNat)
        = 2 ^ w * 2 + (2 ^ w * 2 + a.toNat - b.toNat - c.toNat) by omega, Nat.add_mod_left,
        Nat.mod_eq_of_lt (by omega)] at e
      omega
  cases htop : d.getLsbD w
  · rw [htop] at hsum
    simp only [Bool.toNat_false, Nat.mul_zero, Nat.add_zero] at hsum
    simp only [Bool.toNat_false, Nat.cast_zero, mul_zero, sub_zero]
    omega
  · rw [htop] at hsum
    simp only [Bool.toNat_true, Nat.mul_one] at hsum
    have hcast : ((2 : Int) ^ w) = ((2 ^ w : Nat) : Int) := by push_cast; rfl
    simp only [Bool.toNat_true, Nat.cast_one, mul_one]
    rw [hcast]
    omega

/-- Rotating down through V (R236): V enters bit 7, every other bit comes from the next higher place, bit 0 leaves into V. -/
theorem rotateDown_bits (v : Byte) (c : Bool) (i : Nat) (hi : i < 8) :
    (rotateDown v c).1.getLsbD i = if i = 7 then c else v.getLsbD (i + 1) := by
  have h : ∀ j : Fin 8, ∀ c : Bool, ∀ v : Byte,
      (rotateDown v c).1.getLsbD j.val = if j.val = 7 then c else v.getLsbD (j.val + 1) := by decide
  exact h ⟨i, hi⟩ c v

@[simp] theorem rotateDown_carry (v : Byte) (c : Bool) : (rotateDown v c).2 = v.getLsbD 0 := rfl

/-- Rotating up through V (R238): V enters bit 0, every other bit comes from the next lower place, bit 7 leaves into V. -/
theorem rotateUp_bits (v : Byte) (c : Bool) (i : Nat) (hi : i < 8) :
    (rotateUp v c).1.getLsbD i = if i = 0 then c else v.getLsbD (i - 1) := by
  have h : ∀ j : Fin 8, ∀ c : Bool, ∀ v : Byte,
      (rotateUp v c).1.getLsbD j.val = if j.val = 0 then c else v.getLsbD (j.val - 1) := by decide
  exact h ⟨i, hi⟩ c v

@[simp] theorem rotateUp_carry (v : Byte) (c : Bool) : (rotateUp v c).2 = v.getLsbD 7 := rfl

/-- `rotl_N(v, s)` (R7): old bit i goes to place i + s modulo the width. -/
theorem rotl_bits {w : Nat} (v : BitVec w) (s i : Nat) (hi : i < w) (hs : s < w) :
    (rotl v s).getLsbD ((i + s) % w) = v.getLsbD i := by
  have hw : 0 < w := by omega
  simp only [rotl, BitVec.getLsbD_rotateLeft, Nat.mod_eq_of_lt hs]
  by_cases h : i + s < w
  · have hn : ¬ i + s < s := by omega
    rw [Nat.mod_eq_of_lt h, show i + s - s = i by omega]
    simp [h, hn]
  · have e : (i + s) % w = i + s - w := by
      rw [Nat.mod_eq_sub_mod (by omega), Nat.mod_eq_of_lt (by omega)]
    have hl : i + s - w < s := by omega
    rw [e, show w - s + (i + s - w) = i by omega]
    simp [hl]

@[simp] theorem copiesOf_bits (c : Bool) (i : Nat) (hi : i < 8) : (copiesOf c).getLsbD i = c := by
  have h : ∀ j : Fin 8, ∀ c : Bool, (copiesOf c).getLsbD j.val = c := by decide
  exact h ⟨i, hi⟩ c

@[simp] theorem zext16_toNat (v : Byte) : (zext16 v).toNat = v.toNat := by
  simp only [zext16, BitVec.toNat_setWidth]
  exact Nat.mod_eq_of_lt (by have := v.isLt; omega)

@[simp] theorem lowByte_toNat (v : Word) : (lowByte v).toNat = v.toNat % 256 := by
  simp [lowByte, BitVec.extractLsb'_toNat]

@[simp] theorem highByte_toNat (v : Word) : (highByte v).toNat = v.toNat / 256 := by
  have := v.isLt
  simp only [highByte, BitVec.extractLsb'_toNat, Nat.shiftRight_eq_div_pow]
  exact Nat.mod_eq_of_lt (by omega)

end Sys2Proof.Machine
end

