-- ==== Sys2Proof/Laws/PerInstr.lean ====
section
/-! SUPPORT. Facts about every instruction as syntax, one lemma per constructor. -/

namespace Sys2Proof.Laws.EncodingWellFormed

/-- The bytes of the instruction form a well-formed pair (R80 to R82), and reading that pair back gives the instruction. -/
def Statement (i : Instr) : Prop :=
  (encodeRaw i).wellFormed = true ∧ (encode i).length = opcodeLength (opcode i) ∧ decodeRaw (encodeRaw i) = .ok i

theorem h : Statement .h := ⟨rfl, rfl, rfl⟩
theorem stS : Statement .stS := ⟨rfl, rfl, rfl⟩
theorem ssX : Statement .ssX := ⟨rfl, rfl, rfl⟩
theorem stX : Statement .stX := ⟨rfl, rfl, rfl⟩
theorem ssY : Statement .ssY := ⟨rfl, rfl, rfl⟩
theorem stY : Statement .stY := ⟨rfl, rfl, rfl⟩
theorem ssZ : Statement .ssZ := ⟨rfl, rfl, rfl⟩
theorem stZ : Statement .stZ := ⟨rfl, rfl, rfl⟩
theorem ix0 : Statement .ix0 := ⟨rfl, rfl, rfl⟩
theorem ix1 : Statement .ix1 := ⟨rfl, rfl, rfl⟩
theorem ix2 : Statement .ix2 := ⟨rfl, rfl, rfl⟩
theorem ix3 : Statement .ix3 := ⟨rfl, rfl, rfl⟩
theorem ix4 : Statement .ix4 := ⟨rfl, rfl, rfl⟩
theorem ix5 : Statement .ix5 := ⟨rfl, rfl, rfl⟩
theorem ix6 : Statement .ix6 := ⟨rfl, rfl, rfl⟩
theorem ix7 : Statement .ix7 := ⟨rfl, rfl, rfl⟩
theorem iy0 : Statement .iy0 := ⟨rfl, rfl, rfl⟩
theorem iy1 : Statement .iy1 := ⟨rfl, rfl, rfl⟩
theorem iy2 : Statement .iy2 := ⟨rfl, rfl, rfl⟩
theorem iy3 : Statement .iy3 := ⟨rfl, rfl, rfl⟩
theorem iy4 : Statement .iy4 := ⟨rfl, rfl, rfl⟩
theorem iy5 : Statement .iy5 := ⟨rfl, rfl, rfl⟩
theorem iy6 : Statement .iy6 := ⟨rfl, rfl, rfl⟩
theorem iy7 : Statement .iy7 := ⟨rfl, rfl, rfl⟩
theorem iz0 : Statement .iz0 := ⟨rfl, rfl, rfl⟩
theorem iz1 : Statement .iz1 := ⟨rfl, rfl, rfl⟩
theorem iz2 : Statement .iz2 := ⟨rfl, rfl, rfl⟩
theorem iz3 : Statement .iz3 := ⟨rfl, rfl, rfl⟩
theorem iz4 : Statement .iz4 := ⟨rfl, rfl, rfl⟩
theorem iz5 : Statement .iz5 := ⟨rfl, rfl, rfl⟩
theorem iz6 : Statement .iz6 := ⟨rfl, rfl, rfl⟩
theorem iz7 : Statement .iz7 := ⟨rfl, rfl, rfl⟩
theorem zoS : Statement .zoS := ⟨rfl, rfl, rfl⟩
theorem slS : Statement .slS := ⟨rfl, rfl, rfl⟩
theorem zoX : Statement .zoX := ⟨rfl, rfl, rfl⟩
theorem slX : Statement .slX := ⟨rfl, rfl, rfl⟩
theorem zoY : Statement .zoY := ⟨rfl, rfl, rfl⟩
theorem slY : Statement .slY := ⟨rfl, rfl, rfl⟩
theorem zoZ : Statement .zoZ := ⟨rfl, rfl, rfl⟩
theorem slZ : Statement .slZ := ⟨rfl, rfl, rfl⟩
theorem dx0 : Statement .dx0 := ⟨rfl, rfl, rfl⟩
theorem dx1 : Statement .dx1 := ⟨rfl, rfl, rfl⟩
theorem dx2 : Statement .dx2 := ⟨rfl, rfl, rfl⟩
theorem dx3 : Statement .dx3 := ⟨rfl, rfl, rfl⟩
theorem dx4 : Statement .dx4 := ⟨rfl, rfl, rfl⟩
theorem dx5 : Statement .dx5 := ⟨rfl, rfl, rfl⟩
theorem dx6 : Statement .dx6 := ⟨rfl, rfl, rfl⟩
theorem dx7 : Statement .dx7 := ⟨rfl, rfl, rfl⟩
theorem dy0 : Statement .dy0 := ⟨rfl, rfl, rfl⟩
theorem dy1 : Statement .dy1 := ⟨rfl, rfl, rfl⟩
theorem dy2 : Statement .dy2 := ⟨rfl, rfl, rfl⟩
theorem dy3 : Statement .dy3 := ⟨rfl, rfl, rfl⟩
theorem dy4 : Statement .dy4 := ⟨rfl, rfl, rfl⟩
theorem dy5 : Statement .dy5 := ⟨rfl, rfl, rfl⟩
theorem dy6 : Statement .dy6 := ⟨rfl, rfl, rfl⟩
theorem dy7 : Statement .dy7 := ⟨rfl, rfl, rfl⟩
theorem dz0 : Statement .dz0 := ⟨rfl, rfl, rfl⟩
theorem dz1 : Statement .dz1 := ⟨rfl, rfl, rfl⟩
theorem dz2 : Statement .dz2 := ⟨rfl, rfl, rfl⟩
theorem dz3 : Statement .dz3 := ⟨rfl, rfl, rfl⟩
theorem dz4 : Statement .dz4 := ⟨rfl, rfl, rfl⟩
theorem dz5 : Statement .dz5 := ⟨rfl, rfl, rfl⟩
theorem dz6 : Statement .dz6 := ⟨rfl, rfl, rfl⟩
theorem dz7 : Statement .dz7 := ⟨rfl, rfl, rfl⟩
theorem oVZ (nn : Byte) : Statement (.oVZ nn) :=
  ⟨rfl, rfl, decodeRaw_of_f2 (op := 0x40) (f := .oVZ) rfl nn⟩
theorem oVS (nn : Byte) : Statement (.oVS nn) :=
  ⟨rfl, rfl, decodeRaw_of_f2 (op := 0x41) (f := .oVS) rfl nn⟩
theorem bVZ (nn : Byte) : Statement (.bVZ nn) :=
  ⟨rfl, rfl, decodeRaw_of_f2 (op := 0x42) (f := .bVZ) rfl nn⟩
theorem bVS (nn : Byte) : Statement (.bVS nn) :=
  ⟨rfl, rfl, decodeRaw_of_f2 (op := 0x43) (f := .bVS) rfl nn⟩
theorem oUZ (nn : Byte) : Statement (.oUZ nn) :=
  ⟨rfl, rfl, decodeRaw_of_f2 (op := 0x44) (f := .oUZ) rfl nn⟩
theorem oUS (nn : Byte) : Statement (.oUS nn) :=
  ⟨rfl, rfl, decodeRaw_of_f2 (op := 0x45) (f := .oUS) rfl nn⟩
theorem bUZ (nn : Byte) : Statement (.bUZ nn) :=
  ⟨rfl, rfl, decodeRaw_of_f2 (op := 0x46) (f := .bUZ) rfl nn⟩
theorem bUS (nn : Byte) : Statement (.bUS nn) :=
  ⟨rfl, rfl, decodeRaw_of_f2 (op := 0x47) (f := .bUS) rfl nn⟩
theorem oAZ (nn : Byte) : Statement (.oAZ nn) :=
  ⟨rfl, rfl, decodeRaw_of_f2 (op := 0x48) (f := .oAZ) rfl nn⟩
theorem oAS (nn : Byte) : Statement (.oAS nn) :=
  ⟨rfl, rfl, decodeRaw_of_f2 (op := 0x49) (f := .oAS) rfl nn⟩
theorem bAZ (nn : Byte) : Statement (.bAZ nn) :=
  ⟨rfl, rfl, decodeRaw_of_f2 (op := 0x4a) (f := .bAZ) rfl nn⟩
theorem bAS (nn : Byte) : Statement (.bAS nn) :=
  ⟨rfl, rfl, decodeRaw_of_f2 (op := 0x4b) (f := .bAS) rfl nn⟩
theorem oKZ (nn : Byte) : Statement (.oKZ nn) :=
  ⟨rfl, rfl, decodeRaw_of_f2 (op := 0x4c) (f := .oKZ) rfl nn⟩
theorem oKS (nn : Byte) : Statement (.oKS nn) :=
  ⟨rfl, rfl, decodeRaw_of_f2 (op := 0x4d) (f := .oKS) rfl nn⟩
theorem bKZ (nn : Byte) : Statement (.bKZ nn) :=
  ⟨rfl, rfl, decodeRaw_of_f2 (op := 0x4e) (f := .bKZ) rfl nn⟩
theorem bKS (nn : Byte) : Statement (.bKS nn) :=
  ⟨rfl, rfl, decodeRaw_of_f2 (op := 0x4f) (f := .bKS) rfl nn⟩
theorem oWY (nn : Byte) : Statement (.oWY nn) :=
  ⟨rfl, rfl, decodeRaw_of_f2 (op := 0x50) (f := .oWY) rfl nn⟩
theorem oRP (nn : Byte) : Statement (.oRP nn) :=
  ⟨rfl, rfl, decodeRaw_of_f2 (op := 0x51) (f := .oRP) rfl nn⟩
theorem bWY (nn : Byte) : Statement (.bWY nn) :=
  ⟨rfl, rfl, decodeRaw_of_f2 (op := 0x52) (f := .bWY) rfl nn⟩
theorem bCN (nn : Byte) : Statement (.bCN nn) :=
  ⟨rfl, rfl, decodeRaw_of_f2 (op := 0x53) (f := .bCN) rfl nn⟩
theorem gtr (nn : Byte) : Statement (.gtr nn) :=
  ⟨rfl, rfl, decodeRaw_of_f2 (op := 0x54) (f := .gtr) rfl nn⟩
theorem adr (nn : Byte) : Statement (.adr nn) :=
  ⟨rfl, rfl, decodeRaw_of_f2 (op := 0x55) (f := .adr) rfl nn⟩
theorem gta (nn : Byte) : Statement (.gta nn) :=
  ⟨rfl, rfl, decodeRaw_of_f2 (op := 0x56) (f := .gta) rfl nn⟩
theorem nol (nn : Byte) : Statement (.nol nn) :=
  ⟨rfl, rfl, decodeRaw_of_f2 (op := 0x57) (f := .nol) rfl nn⟩
theorem ikl (nn : Byte) : Statement (.ikl nn) :=
  ⟨rfl, rfl, decodeRaw_of_f2 (op := 0x58) (f := .ikl) rfl nn⟩
theorem dkl (nn : Byte) : Statement (.dkl nn) :=
  ⟨rfl, rfl, decodeRaw_of_f2 (op := 0x59) (f := .dkl) rfl nn⟩
theorem ixl (nn : Byte) : Statement (.ixl nn) :=
  ⟨rfl, rfl, decodeRaw_of_f2 (op := 0x5a) (f := .ixl) rfl nn⟩
theorem dxl (nn : Byte) : Statement (.dxl nn) :=
  ⟨rfl, rfl, decodeRaw_of_f2 (op := 0x5b) (f := .dxl) rfl nn⟩
theorem iyl (nn : Byte) : Statement (.iyl nn) :=
  ⟨rfl, rfl, decodeRaw_of_f2 (op := 0x5c) (f := .iyl) rfl nn⟩
theorem dyl (nn : Byte) : Statement (.dyl nn) :=
  ⟨rfl, rfl, decodeRaw_of_f2 (op := 0x5d) (f := .dyl) rfl nn⟩
theorem izl (nn : Byte) : Statement (.izl nn) :=
  ⟨rfl, rfl, decodeRaw_of_f2 (op := 0x5e) (f := .izl) rfl nn⟩
theorem dzl (nn : Byte) : Statement (.dzl nn) :=
  ⟨rfl, rfl, decodeRaw_of_f2 (op := 0x5f) (f := .dzl) rfl nn⟩
theorem ad (nn : Byte) : Statement (.ad nn) :=
  ⟨rfl, rfl, decodeRaw_of_f2 (op := 0x60) (f := .ad) rfl nn⟩
theorem lv (nn : Byte) : Statement (.lv nn) :=
  ⟨rfl, rfl, decodeRaw_of_f2 (op := 0x61) (f := .lv) rfl nn⟩
theorem av (nn : Byte) : Statement (.av nn) :=
  ⟨rfl, rfl, decodeRaw_of_f2 (op := 0x62) (f := .av) rfl nn⟩
theorem sv (nn : Byte) : Statement (.sv nn) :=
  ⟨rfl, rfl, decodeRaw_of_f2 (op := 0x63) (f := .sv) rfl nn⟩
theorem gt (nn : Byte) : Statement (.gt nn) :=
  ⟨rfl, rfl, decodeRaw_of_f2 (op := 0x64) (f := .gt) rfl nn⟩
theorem an (nn : Byte) : Statement (.an nn) :=
  ⟨rfl, rfl, decodeRaw_of_f2 (op := 0x65) (f := .an) rfl nn⟩
theorem xr (nn : Byte) : Statement (.xr nn) :=
  ⟨rfl, rfl, decodeRaw_of_f2 (op := 0x66) (f := .xr) rfl nn⟩
theorem nr (nn : Byte) : Statement (.nr nn) :=
  ⟨rfl, rfl, decodeRaw_of_f2 (op := 0x67) (f := .nr) rfl nn⟩
theorem stmx : Statement .stmx := ⟨rfl, rfl, rfl⟩
theorem lvmx : Statement .lvmx := ⟨rfl, rfl, rfl⟩
theorem avmx : Statement .avmx := ⟨rfl, rfl, rfl⟩
theorem svmx : Statement .svmx := ⟨rfl, rfl, rfl⟩
theorem gtmx : Statement .gtmx := ⟨rfl, rfl, rfl⟩
theorem anmx : Statement .anmx := ⟨rfl, rfl, rfl⟩
theorem xrmx : Statement .xrmx := ⟨rfl, rfl, rfl⟩
theorem nrmx : Statement .nrmx := ⟨rfl, rfl, rfl⟩
theorem stmy : Statement .stmy := ⟨rfl, rfl, rfl⟩
theorem lvmy : Statement .lvmy := ⟨rfl, rfl, rfl⟩
theorem avmy : Statement .avmy := ⟨rfl, rfl, rfl⟩
theorem svmy : Statement .svmy := ⟨rfl, rfl, rfl⟩
theorem gtmy : Statement .gtmy := ⟨rfl, rfl, rfl⟩
theorem anmy : Statement .anmy := ⟨rfl, rfl, rfl⟩
theorem xrmy : Statement .xrmy := ⟨rfl, rfl, rfl⟩
theorem nrmy : Statement .nrmy := ⟨rfl, rfl, rfl⟩
theorem stmz : Statement .stmz := ⟨rfl, rfl, rfl⟩
theorem lvmz : Statement .lvmz := ⟨rfl, rfl, rfl⟩
theorem avmz : Statement .avmz := ⟨rfl, rfl, rfl⟩
theorem svmz : Statement .svmz := ⟨rfl, rfl, rfl⟩
theorem gtmz : Statement .gtmz := ⟨rfl, rfl, rfl⟩
theorem anmz : Statement .anmz := ⟨rfl, rfl, rfl⟩
theorem xrmz : Statement .xrmz := ⟨rfl, rfl, rfl⟩
theorem nrmz : Statement .nrmz := ⟨rfl, rfl, rfl⟩
theorem no2 : Statement .no2 := ⟨rfl, rfl, rfl⟩
theorem tk1 : Statement .tk1 := ⟨rfl, rfl, rfl⟩
theorem tk2 : Statement .tk2 := ⟨rfl, rfl, rfl⟩
theorem tk3 : Statement .tk3 := ⟨rfl, rfl, rfl⟩
theorem tk4 : Statement .tk4 := ⟨rfl, rfl, rfl⟩
theorem tk5 : Statement .tk5 := ⟨rfl, rfl, rfl⟩
theorem tk6 : Statement .tk6 := ⟨rfl, rfl, rfl⟩
theorem tk7 : Statement .tk7 := ⟨rfl, rfl, rfl⟩
theorem tk8 : Statement .tk8 := ⟨rfl, rfl, rfl⟩
theorem tk9 : Statement .tk9 := ⟨rfl, rfl, rfl⟩
theorem tka : Statement .tka := ⟨rfl, rfl, rfl⟩
theorem tkb : Statement .tkb := ⟨rfl, rfl, rfl⟩
theorem tkc : Statement .tkc := ⟨rfl, rfl, rfl⟩
theorem tkd : Statement .tkd := ⟨rfl, rfl, rfl⟩
theorem tke : Statement .tke := ⟨rfl, rfl, rfl⟩
theorem tkf : Statement .tkf := ⟨rfl, rfl, rfl⟩
theorem no1 : Statement .no1 := ⟨rfl, rfl, rfl⟩
theorem ta1 : Statement .ta1 := ⟨rfl, rfl, rfl⟩
theorem ta2 : Statement .ta2 := ⟨rfl, rfl, rfl⟩
theorem ta3 : Statement .ta3 := ⟨rfl, rfl, rfl⟩
theorem ta4 : Statement .ta4 := ⟨rfl, rfl, rfl⟩
theorem ta5 : Statement .ta5 := ⟨rfl, rfl, rfl⟩
theorem ta6 : Statement .ta6 := ⟨rfl, rfl, rfl⟩
theorem ta7 : Statement .ta7 := ⟨rfl, rfl, rfl⟩
theorem stB : Statement .stB := ⟨rfl, rfl, rfl⟩
theorem lvB : Statement .lvB := ⟨rfl, rfl, rfl⟩
theorem avB : Statement .avB := ⟨rfl, rfl, rfl⟩
theorem svB : Statement .svB := ⟨rfl, rfl, rfl⟩
theorem gtB : Statement .gtB := ⟨rfl, rfl, rfl⟩
theorem anB : Statement .anB := ⟨rfl, rfl, rfl⟩
theorem xrB : Statement .xrB := ⟨rfl, rfl, rfl⟩
theorem nrB : Statement .nrB := ⟨rfl, rfl, rfl⟩
theorem exS : Statement .exS := ⟨rfl, rfl, rfl⟩
theorem lvS : Statement .lvS := ⟨rfl, rfl, rfl⟩
theorem avS : Statement .avS := ⟨rfl, rfl, rfl⟩
theorem svS : Statement .svS := ⟨rfl, rfl, rfl⟩
theorem gtS : Statement .gtS := ⟨rfl, rfl, rfl⟩
theorem ldS : Statement .ldS := ⟨rfl, rfl, rfl⟩
theorem adS : Statement .adS := ⟨rfl, rfl, rfl⟩
theorem sdS : Statement .sdS := ⟨rfl, rfl, rfl⟩
theorem exX : Statement .exX := ⟨rfl, rfl, rfl⟩
theorem esX : Statement .esX := ⟨rfl, rfl, rfl⟩
theorem swX : Statement .swX := ⟨rfl, rfl, rfl⟩
theorem rsX : Statement .rsX := ⟨rfl, rfl, rfl⟩
theorem gtX : Statement .gtX := ⟨rfl, rfl, rfl⟩
theorem ldX : Statement .ldX := ⟨rfl, rfl, rfl⟩
theorem adX : Statement .adX := ⟨rfl, rfl, rfl⟩
theorem sdX : Statement .sdX := ⟨rfl, rfl, rfl⟩
theorem exY : Statement .exY := ⟨rfl, rfl, rfl⟩
theorem esY : Statement .esY := ⟨rfl, rfl, rfl⟩
theorem swY : Statement .swY := ⟨rfl, rfl, rfl⟩
theorem rsY : Statement .rsY := ⟨rfl, rfl, rfl⟩
theorem gtY : Statement .gtY := ⟨rfl, rfl, rfl⟩
theorem ldY : Statement .ldY := ⟨rfl, rfl, rfl⟩
theorem adY : Statement .adY := ⟨rfl, rfl, rfl⟩
theorem sdY : Statement .sdY := ⟨rfl, rfl, rfl⟩
theorem exZ : Statement .exZ := ⟨rfl, rfl, rfl⟩
theorem esZ : Statement .esZ := ⟨rfl, rfl, rfl⟩
theorem swZ : Statement .swZ := ⟨rfl, rfl, rfl⟩
theorem rsZ : Statement .rsZ := ⟨rfl, rfl, rfl⟩
theorem gtZ : Statement .gtZ := ⟨rfl, rfl, rfl⟩
theorem ldZ : Statement .ldZ := ⟨rfl, rfl, rfl⟩
theorem adZ : Statement .adZ := ⟨rfl, rfl, rfl⟩
theorem sdZ : Statement .sdZ := ⟨rfl, rfl, rfl⟩
theorem rVZ : Statement .rVZ := ⟨rfl, rfl, rfl⟩
theorem rVS : Statement .rVS := ⟨rfl, rfl, rfl⟩
theorem rUZ : Statement .rUZ := ⟨rfl, rfl, rfl⟩
theorem rUS : Statement .rUS := ⟨rfl, rfl, rfl⟩
theorem rAZ : Statement .rAZ := ⟨rfl, rfl, rfl⟩
theorem rAS : Statement .rAS := ⟨rfl, rfl, rfl⟩
theorem rKZ : Statement .rKZ := ⟨rfl, rfl, rfl⟩
theorem rKS : Statement .rKS := ⟨rfl, rfl, rfl⟩
theorem rWY : Statement .rWY := ⟨rfl, rfl, rfl⟩
theorem rCN : Statement .rCN := ⟨rfl, rfl, rfl⟩
theorem rIX : Statement .rIX := ⟨rfl, rfl, rfl⟩
theorem rDX : Statement .rDX := ⟨rfl, rfl, rfl⟩
theorem rIY : Statement .rIY := ⟨rfl, rfl, rfl⟩
theorem rDY : Statement .rDY := ⟨rfl, rfl, rfl⟩
theorem rIZ : Statement .rIZ := ⟨rfl, rfl, rfl⟩
theorem rDZ : Statement .rDZ := ⟨rfl, rfl, rfl⟩
theorem ghS : Statement .ghS := ⟨rfl, rfl, rfl⟩
theorem glS : Statement .glS := ⟨rfl, rfl, rfl⟩
theorem ghX : Statement .ghX := ⟨rfl, rfl, rfl⟩
theorem glX : Statement .glX := ⟨rfl, rfl, rfl⟩
theorem ghY : Statement .ghY := ⟨rfl, rfl, rfl⟩
theorem glY : Statement .glY := ⟨rfl, rfl, rfl⟩
theorem ghZ : Statement .ghZ := ⟨rfl, rfl, rfl⟩
theorem glZ : Statement .glZ := ⟨rfl, rfl, rfl⟩
theorem icS : Statement .icS := ⟨rfl, rfl, rfl⟩
theorem dcS : Statement .dcS := ⟨rfl, rfl, rfl⟩
theorem ixe : Statement .ixe := ⟨rfl, rfl, rfl⟩
theorem dxe : Statement .dxe := ⟨rfl, rfl, rfl⟩
theorem iye : Statement .iye := ⟨rfl, rfl, rfl⟩
theorem dye : Statement .dye := ⟨rfl, rfl, rfl⟩
theorem ize : Statement .ize := ⟨rfl, rfl, rfl⟩
theorem dze : Statement .dze := ⟨rfl, rfl, rfl⟩
theorem zoU : Statement .zoU := ⟨rfl, rfl, rfl⟩
theorem seU : Statement .seU := ⟨rfl, rfl, rfl⟩
theorem zoV : Statement .zoV := ⟨rfl, rfl, rfl⟩
theorem seV : Statement .seV := ⟨rfl, rfl, rfl⟩
theorem cpU : Statement .cpU := ⟨rfl, rfl, rfl⟩
theorem neU : Statement .neU := ⟨rfl, rfl, rfl⟩
theorem cpV : Statement .cpV := ⟨rfl, rfl, rfl⟩
theorem neV : Statement .neV := ⟨rfl, rfl, rfl⟩
theorem pvA : Statement .pvA := ⟨rfl, rfl, rfl⟩
theorem tzA : Statement .tzA := ⟨rfl, rfl, rfl⟩
theorem pvB : Statement .pvB := ⟨rfl, rfl, rfl⟩
theorem tzB : Statement .tzB := ⟨rfl, rfl, rfl⟩
theorem rdA : Statement .rdA := ⟨rfl, rfl, rfl⟩
theorem ruA : Statement .ruA := ⟨rfl, rfl, rfl⟩
theorem rdB : Statement .rdB := ⟨rfl, rfl, rfl⟩
theorem ruB : Statement .ruB := ⟨rfl, rfl, rfl⟩
theorem zoA : Statement .zoA := ⟨rfl, rfl, rfl⟩
theorem neA : Statement .neA := ⟨rfl, rfl, rfl⟩
theorem zoB : Statement .zoB := ⟨rfl, rfl, rfl⟩
theorem neB : Statement .neB := ⟨rfl, rfl, rfl⟩
theorem ivA : Statement .ivA := ⟨rfl, rfl, rfl⟩
theorem dvA : Statement .dvA := ⟨rfl, rfl, rfl⟩
theorem slK : Statement .slK := ⟨rfl, rfl, rfl⟩
theorem sRP : Statement .sRP := ⟨rfl, rfl, rfl⟩
theorem icK : Statement .icK := ⟨rfl, rfl, rfl⟩
theorem dcK : Statement .dcK := ⟨rfl, rfl, rfl⟩
theorem zoK : Statement .zoK := ⟨rfl, rfl, rfl⟩
theorem neK : Statement .neK := ⟨rfl, rfl, rfl⟩
theorem icA : Statement .icA := ⟨rfl, rfl, rfl⟩
theorem dcA : Statement .dcA := ⟨rfl, rfl, rfl⟩
theorem gtQ : Statement .gtQ := ⟨rfl, rfl, rfl⟩
theorem j : Statement .j := ⟨rfl, rfl, rfl⟩

end Sys2Proof.Laws.EncodingWellFormed
end

