-- ==== Sys2Proof/Tests/Slice0.lean ====
section
/-! SUPPORT. Tests. Expected values come from the spec: the encoding tables of the instruction files (30, 40 to 48), the test
vectors of spec/95_test_vectors.md and the rules named; none is pasted from the model. -/

namespace Sys2Proof.Tests.Slice0

open Sys2Proof Sys2Proof.Machine

/-! WellFormed: an ill-formed pair of bytes for each check is refused, by name in the decoder. -/

/-- 0x40 (`O.VZ nn`) without its operand (R80). -/
theorem test_missing_operand_refused : RawInstr.wellFormed { opcode := 0x40, operand := none } = false := by decide

/-- 0x90 (`NO1`) with an operand (R81). -/
theorem test_extra_operand_refused : RawInstr.wellFormed { opcode := 0x90, operand := some 0x00 } = false := by decide

theorem test_well_formed_pairs : RawInstr.wellFormed { opcode := 0x67, operand := some 0xff } = true
    ∧ RawInstr.wellFormed { opcode := 0x68, operand := none } = true
    ∧ RawInstr.wellFormed { opcode := 0x3f, operand := none } = true := by decide

theorem test_decoder_names_missing_operand :
    decodeRaw { opcode := 0x40, operand := none } = .error (.missingOperand 0x40) := rfl

theorem test_decoder_names_extra_operand :
    decodeRaw { opcode := 0x90, operand := some 0x00 } = .error (.extraOperand 0x90) := rfl

theorem test_decoder_names_no_opcode : decode [] = .error .noOpcode := rfl

/-! Decoding: every constructor from its bytes, written out from the tables of the instruction files and from the map of
R84; the operand byte of a two-byte instruction is 0xa5. The encoder gives the bytes back. -/

/-- The bytes decode to the instruction with nothing left over, and the instruction encodes to them. -/
def codes (bytes : List Byte) (i : Instr) : Bool :=
  encode i == bytes &&
    match decode bytes with
    | .ok (k, rest) => k == i && rest.isEmpty
    | .error _ => false

theorem test_codes_alu8 : ([
    codes [0x60, 0xa5] (.ad 0xa5), codes [0x61, 0xa5] (.lv 0xa5), codes [0x62, 0xa5] (.av 0xa5),
    codes [0x63, 0xa5] (.sv 0xa5), codes [0x64, 0xa5] (.gt 0xa5), codes [0x65, 0xa5] (.an 0xa5),
    codes [0x66, 0xa5] (.xr 0xa5), codes [0x67, 0xa5] (.nr 0xa5), codes [0x98] .stB,
    codes [0x99] .lvB, codes [0x9a] .avB, codes [0x9b] .svB,
    codes [0x9c] .gtB, codes [0x9d] .anB, codes [0x9e] .xrB,
    codes [0x9f] .nrB].all id) = true := by decide

theorem test_codes_alu8_memory : ([
    codes [0x68] .stmx, codes [0x69] .lvmx, codes [0x6a] .avmx,
    codes [0x6b] .svmx, codes [0x6c] .gtmx, codes [0x6d] .anmx,
    codes [0x6e] .xrmx, codes [0x6f] .nrmx, codes [0x70] .stmy,
    codes [0x71] .lvmy, codes [0x72] .avmy, codes [0x73] .svmy,
    codes [0x74] .gtmy, codes [0x75] .anmy, codes [0x76] .xrmy,
    codes [0x77] .nrmy, codes [0x78] .stmz, codes [0x79] .lvmz,
    codes [0x7a] .avmz, codes [0x7b] .svmz, codes [0x7c] .gtmz,
    codes [0x7d] .anmz, codes [0x7e] .xrmz, codes [0x7f] .nrmz].all id) = true := by decide

theorem test_codes_arith16 : ([
    codes [0xa1] .lvS, codes [0xa2] .avS, codes [0xa3] .svS,
    codes [0xa5] .ldS, codes [0xa6] .adS, codes [0xa7] .sdS,
    codes [0xad] .ldX, codes [0xae] .adX, codes [0xaf] .sdX,
    codes [0xb5] .ldY, codes [0xb6] .adY, codes [0xb7] .sdY,
    codes [0xbd] .ldZ, codes [0xbe] .adZ, codes [0xbf] .sdZ].all id) = true := by decide

theorem test_codes_transfer16_1 : ([
    codes [0x01] .stS, codes [0x02] .ssX, codes [0x03] .stX,
    codes [0x04] .ssY, codes [0x05] .stY, codes [0x06] .ssZ,
    codes [0x07] .stZ, codes [0x20] .zoS, codes [0x21] .slS,
    codes [0x22] .zoX, codes [0x23] .slX, codes [0x24] .zoY,
    codes [0x25] .slY, codes [0x26] .zoZ, codes [0x27] .slZ,
    codes [0xa0] .exS, codes [0xa4] .gtS, codes [0xa8] .exX,
    codes [0xa9] .esX, codes [0xab] .rsX, codes [0xac] .gtX,
    codes [0xb0] .exY, codes [0xb1] .esY, codes [0xb3] .rsY,
    codes [0xb4] .gtY, codes [0xb8] .exZ, codes [0xb9] .esZ,
    codes [0xbb] .rsZ, codes [0xbc] .gtZ, codes [0xd0] .ghS,
    codes [0xd1] .glS, codes [0xd2] .ghX].all id) = true := by decide

theorem test_codes_transfer16_2 : ([
    codes [0xd3] .glX, codes [0xd4] .ghY, codes [0xd5] .glY,
    codes [0xd6] .ghZ, codes [0xd7] .glZ, codes [0xf6] .slK].all id) = true := by decide

theorem test_codes_flags_unary_1 : ([
    codes [0x81] .tk1, codes [0x82] .tk2, codes [0x83] .tk3,
    codes [0x84] .tk4, codes [0x85] .tk5, codes [0x86] .tk6,
    codes [0x87] .tk7, codes [0x88] .tk8, codes [0x89] .tk9,
    codes [0x8a] .tka, codes [0x8b] .tkb, codes [0x8c] .tkc,
    codes [0x8d] .tkd, codes [0x8e] .tke, codes [0x8f] .tkf,
    codes [0x91] .ta1, codes [0x92] .ta2, codes [0x93] .ta3,
    codes [0x94] .ta4, codes [0x95] .ta5, codes [0x96] .ta6,
    codes [0x97] .ta7, codes [0xd8] .icS, codes [0xd9] .dcS,
    codes [0xe0] .zoU, codes [0xe1] .seU, codes [0xe2] .zoV,
    codes [0xe3] .seV, codes [0xe4] .cpU, codes [0xe5] .neU,
    codes [0xe6] .cpV, codes [0xe7] .neV].all id) = true := by decide

theorem test_codes_flags_unary_2 : ([
    codes [0xe8] .pvA, codes [0xe9] .tzA, codes [0xea] .pvB,
    codes [0xeb] .tzB, codes [0xec] .rdA, codes [0xed] .ruA,
    codes [0xee] .rdB, codes [0xef] .ruB, codes [0xf0] .zoA,
    codes [0xf1] .neA, codes [0xf2] .zoB, codes [0xf3] .neB,
    codes [0xf4] .ivA, codes [0xf5] .dvA, codes [0xf8] .icK,
    codes [0xf9] .dcK, codes [0xfa] .zoK, codes [0xfb] .neK,
    codes [0xfc] .icA, codes [0xfd] .dcA].all id) = true := by decide

theorem test_codes_incdec_1 : ([
    codes [0x08] .ix0, codes [0x09] .ix1, codes [0x0a] .ix2,
    codes [0x0b] .ix3, codes [0x0c] .ix4, codes [0x0d] .ix5,
    codes [0x0e] .ix6, codes [0x0f] .ix7, codes [0x10] .iy0,
    codes [0x11] .iy1, codes [0x12] .iy2, codes [0x13] .iy3,
    codes [0x14] .iy4, codes [0x15] .iy5, codes [0x16] .iy6,
    codes [0x17] .iy7, codes [0x18] .iz0, codes [0x19] .iz1,
    codes [0x1a] .iz2, codes [0x1b] .iz3, codes [0x1c] .iz4,
    codes [0x1d] .iz5, codes [0x1e] .iz6, codes [0x1f] .iz7,
    codes [0x28] .dx0, codes [0x29] .dx1, codes [0x2a] .dx2,
    codes [0x2b] .dx3, codes [0x2c] .dx4, codes [0x2d] .dx5,
    codes [0x2e] .dx6, codes [0x2f] .dx7].all id) = true := by decide

theorem test_codes_incdec_2 : ([
    codes [0x30] .dy0, codes [0x31] .dy1, codes [0x32] .dy2,
    codes [0x33] .dy3, codes [0x34] .dy4, codes [0x35] .dy5,
    codes [0x36] .dy6, codes [0x37] .dy7, codes [0x38] .dz0,
    codes [0x39] .dz1, codes [0x3a] .dz2, codes [0x3b] .dz3,
    codes [0x3c] .dz4, codes [0x3d] .dz5, codes [0x3e] .dz6,
    codes [0x3f] .dz7, codes [0x58, 0xa5] (.ikl 0xa5), codes [0x59, 0xa5] (.dkl 0xa5),
    codes [0x5a, 0xa5] (.ixl 0xa5), codes [0x5b, 0xa5] (.dxl 0xa5), codes [0x5c, 0xa5] (.iyl 0xa5),
    codes [0x5d, 0xa5] (.dyl 0xa5), codes [0x5e, 0xa5] (.izl 0xa5), codes [0x5f, 0xa5] (.dzl 0xa5),
    codes [0xda] .ixe, codes [0xdb] .dxe, codes [0xdc] .iye,
    codes [0xdd] .dye, codes [0xde] .ize, codes [0xdf] .dze].all id) = true := by decide

theorem test_codes_addr_nop_link : ([
    codes [0x54, 0xa5] (.gtr 0xa5), codes [0x55, 0xa5] (.adr 0xa5), codes [0x56, 0xa5] (.gta 0xa5),
    codes [0x57, 0xa5] (.nol 0xa5), codes [0x80] .no2, codes [0x90] .no1,
    codes [0xf7] .sRP, codes [0xfe] .gtQ].all id) = true := by decide

theorem test_codes_control_1 : ([
    codes [0x40, 0xa5] (.oVZ 0xa5), codes [0x41, 0xa5] (.oVS 0xa5), codes [0x42, 0xa5] (.bVZ 0xa5),
    codes [0x43, 0xa5] (.bVS 0xa5), codes [0x44, 0xa5] (.oUZ 0xa5), codes [0x45, 0xa5] (.oUS 0xa5),
    codes [0x46, 0xa5] (.bUZ 0xa5), codes [0x47, 0xa5] (.bUS 0xa5), codes [0x48, 0xa5] (.oAZ 0xa5),
    codes [0x49, 0xa5] (.oAS 0xa5), codes [0x4a, 0xa5] (.bAZ 0xa5), codes [0x4b, 0xa5] (.bAS 0xa5),
    codes [0x4c, 0xa5] (.oKZ 0xa5), codes [0x4d, 0xa5] (.oKS 0xa5), codes [0x4e, 0xa5] (.bKZ 0xa5),
    codes [0x4f, 0xa5] (.bKS 0xa5), codes [0x50, 0xa5] (.oWY 0xa5), codes [0x51, 0xa5] (.oRP 0xa5),
    codes [0x52, 0xa5] (.bWY 0xa5), codes [0x53, 0xa5] (.bCN 0xa5), codes [0xc0] .rVZ,
    codes [0xc1] .rVS, codes [0xc2] .rUZ, codes [0xc3] .rUS,
    codes [0xc4] .rAZ, codes [0xc5] .rAS, codes [0xc6] .rKZ,
    codes [0xc7] .rKS, codes [0xc8] .rWY, codes [0xc9] .rCN,
    codes [0xca] .rIX, codes [0xcb] .rDX].all id) = true := by decide

theorem test_codes_control_2 : ([
    codes [0xcc] .rIY, codes [0xcd] .rDY, codes [0xce] .rIZ,
    codes [0xcf] .rDZ, codes [0xff] .j].all id) = true := by decide

theorem test_codes_paging_io : ([
    codes [0x00] .h, codes [0xaa] .swX, codes [0xb2] .swY,
    codes [0xba] .swZ].all id) = true := by decide

/-- The table's numbering: the second byte of a two-byte instruction is bits 15..8; an operand given no bits is 0. -/
theorem test_table_words : decodeTableWord 16 0x7f62 = some (.av 0x7f) ∧ decodeTableWord 8 0x62 = some (.av 0x00)
    ∧ decodeTableWord 8 0x9d = some .anB := by decide

/-! One step of each kind, from the vectors of spec/95_test_vectors.md. -/

/-- The next state of a step on the state with a table word placed at P. -/
def stepped (s : State) (nbits w : Nat) : Option State :=
  match step (s.withFetchWord nbits w) with
  | .next t => some t
  | _ => none

/-- A byte in memory. -/
def poke (s : State) (a : Word) (v : Byte) : State := s.setPlatform (s.platform.write .WX a v)

theorem test_anb : (stepped { State.reset with A := 0xff, B := 0x00, V := true }
    8 0x9d).map (fun t => (t.P, t.A, t.B, t.V)) = some (0x0101, 0x00, 0x00, true) := by decide

theorem test_nrb : (stepped { State.reset with A := 0xf0, B := 0x0f, V := true }
    8 0x9f).map (fun t => (t.P, t.A, t.B, t.V)) = some (0x0101, 0x00, 0x0f, true) := by decide

theorem test_xrb : (stepped { State.reset with A := 0x5a, B := 0x5a, V := true }
    8 0x9e).map (fun t => (t.P, t.A, t.B, t.V)) = some (0x0101, 0x00, 0x5a, true) := by decide

theorem test_avb : (stepped { State.reset with A := 0xff, B := 0xff, V := true }
    8 0x9a).map (fun t => (t.P, t.A, t.B, t.V)) = some (0x0101, 0xff, 0xff, true) := by decide

theorem test_avb_again : (stepped { State.reset with A := 0x80, B := 0x80, V := false }
    8 0x9a).map (fun t => (t.P, t.A, t.B, t.V)) = some (0x0101, 0x00, 0x80, true) := by decide

theorem test_svb : (stepped { State.reset with A := 0x50, B := 0x51, V := false }
    8 0x9b).map (fun t => (t.P, t.A, t.B, t.V)) = some (0x0101, 0xff, 0x51, true) := by decide

theorem test_svb_again : (stepped { State.reset with A := 0x00, B := 0xff, V := true }
    8 0x9b).map (fun t => (t.P, t.A, t.B, t.V)) = some (0x0101, 0x00, 0xff, true) := by decide

theorem test_lvb : (stepped { State.reset with A := 0x03, B := 0x01, V := false }
    8 0x99).map (fun t => (t.P, t.A, t.B, t.V)) = some (0x0101, 0xfe, 0x01, true) := by decide

theorem test_gtb : (stepped { State.reset with A := 0x11, B := 0xee, V := true }
    8 0x9c).map (fun t => (t.P, t.A, t.B, t.V)) = some (0x0101, 0xee, 0xee, true) := by decide

theorem test_stb : (stepped { State.reset with A := 0x11, B := 0xee, V := true }
    8 0x98).map (fun t => (t.P, t.A, t.B, t.V)) = some (0x0101, 0x11, 0x11, true) := by decide

theorem test_an : (stepped { State.reset with A := 0xff, V := true }
    16 0x65).map (fun t => (t.P, t.A, t.V)) = some (0x0102, 0x00, true) := by decide

theorem test_nr : (stepped { State.reset with A := 0x0f, V := false }
    16 0x67).map (fun t => (t.P, t.A, t.V)) = some (0x0102, 0xf0, false) := by decide

theorem test_xr : (stepped { State.reset with A := 0x0f, V := false }
    16 0xff66).map (fun t => (t.P, t.A, t.V)) = some (0x0102, 0xf0, false) := by decide

theorem test_av : (stepped { State.reset with A := 0x01, V := false }
    16 0xff62).map (fun t => (t.P, t.A, t.V)) = some (0x0102, 0x00, true) := by decide

theorem test_sv : (stepped { State.reset with A := 0x7f, V := false }
    16 0x8063).map (fun t => (t.P, t.A, t.V)) = some (0x0102, 0xff, true) := by decide

theorem test_lv : (stepped { State.reset with A := 0x01, V := false }
    16 0x61).map (fun t => (t.P, t.A, t.V)) = some (0x0102, 0xff, true) := by decide

theorem test_gt : (stepped { State.reset with A := 0xff, V := true }
    16 0x64).map (fun t => (t.P, t.A, t.V)) = some (0x0102, 0x00, true) := by decide

theorem test_ad : (stepped { State.reset with A := 0x01, V := true }
    16 0xff60).map (fun t => (t.P, t.A, t.V)) = some (0x0102, 0x00, true) := by decide

theorem test_gtmx : (stepped (poke { State.reset with A := 0x00, X := 0x0000 } 0x0000 0x42)
    8 0x6c).map (fun t => (t.P, t.A, t.X)) = some (0x0101, 0x42, 0x0000) := by decide

theorem test_gtmz : (stepped (poke { State.reset with A := 0x00, Z := 0xffff } 0xffff 0x43)
    8 0x7c).map (fun t => (t.P, t.A, t.Z)) = some (0x0101, 0x43, 0xffff) := by decide

theorem test_stmx : (stepped (poke { State.reset with A := 0x99, X := 0x8000 } 0x8000 0x00)
    8 0x68).map (fun t => (t.P, t.A, t.X, t.byteAt 0x8000)) = some (0x0101, 0x99, 0x8000, 0x99) := by decide

theorem test_stmy : (stepped (poke { State.reset with A := 0x00, V := true, Y := 0x8000 } 0x8000 0xff)
    8 0x70).map (fun t => (t.P, t.A, t.V, t.Y, t.byteAt 0x8000)) = some (0x0101, 0x00, true, 0x8000, 0x00) := by decide

theorem test_stmz : (stepped (poke { State.reset with A := 0x90, Z := 0x0102 } 0x0102 0x00)
    8 0x78).map (fun t => (t.P, t.A, t.Z, t.byteAt 0x0102)) = some (0x0101, 0x90, 0x0102, 0x90) := by decide

theorem test_anmx : (stepped (poke { State.reset with A := 0xf0, V := true, X := 0x4000 } 0x4000 0x3c)
    8 0x6d).map (fun t => (t.P, t.A, t.V, t.X)) = some (0x0101, 0x30, true, 0x4000) := by decide

theorem test_nrmy : (stepped (poke { State.reset with A := 0xf0, V := false, Y := 0x4000 } 0x4000 0x0c)
    8 0x77).map (fun t => (t.P, t.A, t.V, t.Y)) = some (0x0101, 0x03, false, 0x4000) := by decide

theorem test_xrmz : (stepped (poke { State.reset with A := 0xf0, V := false, Z := 0x4000 } 0x4000 0xff)
    8 0x7e).map (fun t => (t.P, t.A, t.V, t.Z)) = some (0x0101, 0x0f, false, 0x4000) := by decide

theorem test_avmy : (stepped (poke { State.reset with A := 0x10, V := true, Y := 0x4000 } 0x4000 0x20)
    8 0x72).map (fun t => (t.P, t.A, t.V, t.Y)) = some (0x0101, 0x31, false, 0x4000) := by decide

theorem test_svmx : (stepped (poke { State.reset with A := 0x20, V := true, X := 0x4000 } 0x4000 0x10)
    8 0x6b).map (fun t => (t.P, t.A, t.V, t.X)) = some (0x0101, 0x0f, false, 0x4000) := by decide

theorem test_lvmy : (stepped (poke { State.reset with A := 0x20, V := false, Y := 0x4000 } 0x4000 0x10)
    8 0x71).map (fun t => (t.P, t.A, t.V, t.Y)) = some (0x0101, 0xf0, true, 0x4000) := by decide

theorem test_avs : (stepped { State.reset with A := 0xff, B := 0xff, V := true, S := 0xffff }
    8 0xa2).map (fun t => (t.P, t.A, t.B, t.V, t.S)) = some (0x0101, 0xff, 0xff, true, 0xffff) := by decide

theorem test_svs : (stepped { State.reset with A := 0x12, B := 0x34, V := false, S := 0x1235 }
    8 0xa3).map (fun t => (t.P, t.A, t.B, t.V, t.S)) = some (0x0101, 0xff, 0xff, true, 0x1235) := by decide

theorem test_lvs : (stepped { State.reset with A := 0x01, B := 0x00, V := true, S := 0x0001 }
    8 0xa1).map (fun t => (t.P, t.A, t.B, t.V, t.S)) = some (0x0101, 0xff, 0x00, true, 0x0001) := by decide

theorem test_ads : (stepped { State.reset with A := 0xff, B := 0xff, V := false, S := 0x0001 }
    8 0xa6).map (fun t => (t.P, t.A, t.B, t.V, t.S)) = some (0x0101, 0x00, 0x00, false, 0x0001) := by decide

theorem test_sdz : (stepped { State.reset with A := 0x80, B := 0x00, V := false, Z := 0x0001 }
    8 0xbf).map (fun t => (t.P, t.A, t.B, t.V, t.Z)) = some (0x0101, 0x7f, 0xff, false, 0x0001) := by decide

theorem test_ldy : (stepped { State.reset with A := 0x00, B := 0x01, V := false, Y := 0x0000 }
    8 0xb5).map (fun t => (t.P, t.A, t.B, t.V, t.Y)) = some (0x0101, 0xff, 0xff, false, 0x0000) := by decide

theorem test_adx : (stepped { State.reset with A := 0x00, B := 0xff, V := true, X := 0x0001 }
    8 0xae).map (fun t => (t.P, t.A, t.B, t.V, t.X)) = some (0x0101, 0x01, 0x00, true, 0x0001) := by decide

theorem test_gts : (stepped { State.reset with A := 0x11, B := 0x11, S := 0x8000 }
    8 0xa4).map (fun t => (t.P, t.A, t.B, t.S)) = some (0x0101, 0x80, 0x00, 0x8000) := by decide

theorem test_sts : (stepped { State.reset with A := 0xa5, B := 0x5a, S := 0x0000 }
    8 0x1).map (fun t => (t.P, t.A, t.B, t.S)) = some (0x0101, 0xa5, 0x5a, 0xa55a) := by decide

theorem test_gtx : (stepped { State.reset with A := 0x11, B := 0x11, X := 0x00ff }
    8 0xac).map (fun t => (t.P, t.A, t.B, t.X)) = some (0x0101, 0x00, 0xff, 0x00ff) := by decide

theorem test_sty : (stepped { State.reset with A := 0xff, B := 0xfe, Y := 0x0000 }
    8 0x5).map (fun t => (t.P, t.A, t.B, t.Y)) = some (0x0101, 0xff, 0xfe, 0xfffe) := by decide

theorem test_rsx : (stepped { State.reset with S := 0x1111, X := 0x2222 }
    8 0xab).map (fun t => (t.P, t.S, t.X)) = some (0x0101, 0x2222, 0x2222) := by decide

theorem test_ssy : (stepped { State.reset with S := 0x1111, Y := 0x2222 }
    8 0x4).map (fun t => (t.P, t.S, t.Y)) = some (0x0101, 0x1111, 0x1111) := by decide

theorem test_slk : (stepped { State.reset with A := 0x80, B := 0x7f }
    8 0xf6).map (fun t => (t.P, t.A, t.B)) = some (0x0101, 0x00, 0x80) := by decide

theorem test_slx : (stepped { State.reset with A := 0xff, X := 0x0000 }
    8 0x23).map (fun t => (t.P, t.A, t.X)) = some (0x0101, 0xff, 0x00ff) := by decide

theorem test_gly : (stepped { State.reset with A := 0x00, B := 0x55, Y := 0xabcd }
    8 0xd5).map (fun t => (t.P, t.A, t.B, t.Y)) = some (0x0101, 0xcd, 0x55, 0xabcd) := by decide

theorem test_ghz : (stepped { State.reset with A := 0x00, B := 0x55, Z := 0xabcd }
    8 0xd6).map (fun t => (t.P, t.A, t.B, t.Z)) = some (0x0101, 0xab, 0x55, 0xabcd) := by decide

theorem test_exx : (stepped { State.reset with A := 0xaa, B := 0xaa, X := 0x5555 }
    8 0xa8).map (fun t => (t.P, t.A, t.B, t.X)) = some (0x0101, 0x55, 0x55, 0xaaaa) := by decide

theorem test_esz : (stepped { State.reset with S := 0x0001, Z := 0x0002 }
    8 0xb9).map (fun t => (t.P, t.S, t.Z)) = some (0x0101, 0x0002, 0x0001) := by decide

theorem test_zox : (stepped { State.reset with X := 0x8000 }
    8 0x22).map (fun t => (t.P, t.X)) = some (0x0101, 0x0000) := by decide

theorem test_cpv : (stepped { State.reset with A := 0x80, V := true }
    8 0xe6).map (fun t => (t.P, t.A, t.V)) = some (0x0101, 0x80, false) := by decide

theorem test_zou : (stepped { State.reset with A := 0x80, B := 0xaa }
    8 0xe0).map (fun t => (t.P, t.A, t.B)) = some (0x0101, 0x00, 0xaa) := by decide

theorem test_cpu : (stepped { State.reset with A := 0x01, V := true }
    8 0xe4).map (fun t => (t.P, t.A, t.V)) = some (0x0101, 0x81, true) := by decide

theorem test_nea : (stepped { State.reset with A := 0xa5 }
    8 0xf1).map (fun t => (t.P, t.A)) = some (0x0101, 0x5a) := by decide

theorem test_nek : (stepped { State.reset with A := 0x00, B := 0xff }
    8 0xfb).map (fun t => (t.P, t.A, t.B)) = some (0x0101, 0xff, 0x00) := by decide

theorem test_iva : (stepped { State.reset with A := 0xff, V := true }
    8 0xf4).map (fun t => (t.P, t.A, t.V)) = some (0x0101, 0x00, true) := by decide

theorem test_dva : (stepped { State.reset with A := 0x00, V := true }
    8 0xf5).map (fun t => (t.P, t.A, t.V)) = some (0x0101, 0xff, true) := by decide

theorem test_ica : (stepped { State.reset with A := 0xff, B := 0x00, V := false }
    8 0xfc).map (fun t => (t.P, t.A, t.B, t.V)) = some (0x0101, 0x00, 0x00, false) := by decide

theorem test_ick : (stepped { State.reset with A := 0x00, B := 0xff }
    8 0xf8).map (fun t => (t.P, t.A, t.B)) = some (0x0101, 0x01, 0x00) := by decide

theorem test_dck : (stepped { State.reset with A := 0x01, B := 0x00 }
    8 0xf9).map (fun t => (t.P, t.A, t.B)) = some (0x0101, 0x00, 0xff) := by decide

theorem test_dcs : (stepped { State.reset with S := 0x0000 }
    8 0xd9).map (fun t => (t.P, t.S)) = some (0x0101, 0xffff) := by decide

theorem test_pva : (stepped { State.reset with A := 0x55, V := true }
    8 0xe8).map (fun t => (t.P, t.A, t.V)) = some (0x0101, 0xff, false) := by decide

theorem test_tza : (stepped { State.reset with A := 0x00, V := true }
    8 0xe9).map (fun t => (t.P, t.A, t.V)) = some (0x0101, 0x00, true) := by decide

theorem test_tzb : (stepped { State.reset with B := 0x80, V := false }
    8 0xeb).map (fun t => (t.P, t.B, t.V)) = some (0x0101, 0x80, true) := by decide

theorem test_rda : (stepped { State.reset with A := 0xb2, V := true }
    8 0xec).map (fun t => (t.P, t.A, t.V)) = some (0x0101, 0xd9, false) := by decide

theorem test_rua : (stepped { State.reset with A := 0xb2, V := true }
    8 0xed).map (fun t => (t.P, t.A, t.V)) = some (0x0101, 0x65, true) := by decide

theorem test_rdb : (stepped { State.reset with A := 0xff, B := 0x02, V := false }
    8 0xee).map (fun t => (t.P, t.A, t.B, t.V)) = some (0x0101, 0xff, 0x01, false) := by decide

theorem test_rub : (stepped { State.reset with A := 0xff, B := 0x40, V := false }
    8 0xef).map (fun t => (t.P, t.A, t.B, t.V)) = some (0x0101, 0xff, 0x80, false) := by decide

theorem test_ta3 : (stepped { State.reset with A := 0x96, V := true }
    8 0x93).map (fun t => (t.P, t.A, t.V)) = some (0x0101, 0xb4, true) := by decide

theorem test_ix7 : (stepped { State.reset with X := 0xfff8 }
    8 0xf).map (fun t => (t.P, t.X)) = some (0x0101, 0x0000) := by decide

theorem test_dy3 : (stepped { State.reset with Y := 0x0004 }
    8 0x33).map (fun t => (t.P, t.Y)) = some (0x0101, 0x0000) := by decide

theorem test_dz7 : (stepped { State.reset with Z := 0x8000 }
    8 0x3f).map (fun t => (t.P, t.Z)) = some (0x0101, 0x7ff8) := by decide

theorem test_ixe : (stepped { State.reset with A := 0x01, B := 0x02, X := 0xffff }
    8 0xda).map (fun t => (t.P, t.A, t.B, t.X)) = some (0x0101, 0x02, 0x01, 0x0000) := by decide

theorem test_dye : (stepped { State.reset with A := 0xaa, B := 0xaa, Y := 0x0000 }
    8 0xdd).map (fun t => (t.P, t.A, t.B, t.Y)) = some (0x0101, 0xaa, 0xaa, 0xffff) := by decide

theorem test_ikl : (stepped { State.reset with A := 0x00, B := 0x00 }
    16 0xff58).map (fun t => (t.P, t.A, t.B)) = some (0x0102, 0x01, 0x00) := by decide

theorem test_dxl : (stepped { State.reset with X := 0x0000 }
    16 0x805b).map (fun t => (t.P, t.X)) = some (0x0102, 0xff7f) := by decide

theorem test_iyl : (stepped { State.reset with Y := 0x0000 }
    16 0x805c).map (fun t => (t.P, t.Y)) = some (0x0102, 0x0081) := by decide

theorem test_gtr : (stepped { State.reset with P := 0xff00, A := 0x00, B := 0x00 }
    16 0xff54).map (fun t => (t.P, t.A, t.B)) = some (0xff02, 0x00, 0x02) := by decide

theorem test_adr : (stepped { State.reset with A := 0xff, B := 0x00 }
    16 0x55).map (fun t => (t.P, t.A, t.B)) = some (0x0102, 0x00, 0x03) := by decide

theorem test_nol : (stepped { State.reset with A := 0x00, B := 0x00, R := 0xabcd }
    16 0x57).map (fun t => (t.P, t.A, t.B, t.R)) = some (0x0102, 0xab, 0xcd, 0xabcd) := by decide

theorem test_nol_again : (stepped { State.reset with A := 0x00, B := 0x00, R := 0xabcd }
    16 0x157).map (fun t => (t.P, t.A, t.B, t.R)) = some (0x0102, 0x00, 0x00, 0xabcd) := by decide

theorem test_gtq : (stepped { State.reset with A := 0x00, B := 0x00, Q := 0xfedc }
    8 0xfe).map (fun t => (t.P, t.A, t.B, t.Q)) = some (0x0101, 0xfe, 0xdc, 0xfedc) := by decide

theorem test_srp : (stepped { State.reset with P := 0xffff, R := 0x1234 }
    8 0xf7).map (fun t => (t.P, t.R)) = some (0x0000, 0x0000) := by decide

theorem test_gta : (stepped (poke { State.reset with P := 0xffff, A := 0xff, B := 0xff } 0x0000 0x12)
    16 0x1256).map (fun t => (t.P, t.A, t.B)) = some (0x0001, 0x00, 0x12) := by decide

theorem test_owy : (stepped { State.reset with P := 0xfff0 }
    16 0xff50).map (fun t => t.P) = some 0x00f2 := by decide

theorem test_bwy : (stepped { State.reset with P := 0x0000 }
    16 0x52).map (fun t => t.P) = some 0xffff := by decide

theorem test_orp : (stepped { State.reset with P := 0xffff, R := 0x0000 }
    16 0xff51).map (fun t => (t.P, t.R)) = some (0x0101, 0x0001) := by decide

theorem test_ovz : (stepped { State.reset with V := true }
    16 0x1040).map (fun t => (t.P, t.V)) = some (0x0102, false) := by decide

theorem test_ovs : (stepped { State.reset with V := true }
    16 0x1041).map (fun t => (t.P, t.V)) = some (0x0113, false) := by decide

theorem test_bvs : (stepped { State.reset with V := true }
    16 0x1043).map (fun t => (t.P, t.V)) = some (0x00ef, false) := by decide

theorem test_ouz : (stepped { State.reset with A := 0x7f, V := true }
    16 0x1044).map (fun t => (t.P, t.A, t.V)) = some (0x0113, 0x7f, true) := by decide

theorem test_bus : (stepped { State.reset with A := 0x7f }
    16 0x1047).map (fun t => (t.P, t.A)) = some (0x0102, 0x7f) := by decide

theorem test_oaz : (stepped { State.reset with A := 0x00, B := 0xff }
    16 0x1048).map (fun t => (t.P, t.A, t.B)) = some (0x0113, 0x00, 0xff) := by decide

theorem test_okz : (stepped { State.reset with A := 0x00, B := 0x01 }
    16 0x104c).map (fun t => (t.P, t.A, t.B)) = some (0x0102, 0x00, 0x01) := by decide

theorem test_bas : (stepped { State.reset with A := 0x01, B := 0x00 }
    16 0x104b).map (fun t => (t.P, t.A, t.B)) = some (0x00ef, 0x01, 0x00) := by decide

theorem test_bcn : (stepped { State.reset with S := 0x0001 }
    16 0x453).map (fun t => (t.P, t.S)) = some (0x00fb, 0x0000) := by decide

theorem test_bcn_again : (stepped { State.reset with S := 0x0000 }
    16 0x453).map (fun t => (t.P, t.S)) = some (0x0102, 0x0000) := by decide

theorem test_rvs : (stepped { State.reset with V := true, R := 0x0200 }
    8 0xc1).map (fun t => (t.P, t.V, t.R)) = some (0x0200, false, 0x0200) := by decide

theorem test_rks : (stepped { State.reset with A := 0x00, B := 0x01, R := 0x0200 }
    8 0xc7).map (fun t => (t.P, t.A, t.B, t.R)) = some (0x0200, 0x00, 0x01, 0x0200) := by decide

theorem test_rcn : (stepped { State.reset with S := 0x0001, R := 0x0200 }
    8 0xc9).map (fun t => (t.P, t.S, t.R)) = some (0x0200, 0x0000, 0x0200) := by decide

theorem test_rix : (stepped { State.reset with S := 0x0001, X := 0xffff, R := 0x0200 }
    8 0xca).map (fun t => (t.P, t.S, t.X, t.R)) = some (0x0200, 0x0000, 0x0000, 0x0200) := by decide

theorem test_rix_again : (stepped { State.reset with S := 0x0000, X := 0xffff, R := 0x0200 }
    8 0xca).map (fun t => (t.P, t.S, t.X, t.R)) = some (0x0101, 0x0000, 0xffff, 0x0200) := by decide

theorem test_rdz : (stepped { State.reset with S := 0x0005, Z := 0x0010, R := 0x0200 }
    8 0xcf).map (fun t => (t.P, t.S, t.Z, t.R)) = some (0x0200, 0x0004, 0x000f, 0x0200) := by decide

theorem test_j : (stepped { State.reset with P := 0xffff, A := 0x12, B := 0x34, Q := 0x0000, R := 0x0000 }
    8 0xff).map (fun t => (t.P, t.A, t.B, t.Q, t.R)) = some (0x1234, 0x00, 0x00, 0x0000, 0x1234) := by decide

theorem test_j_again : (stepped { State.reset with P := 0x8000, A := 0x00, B := 0x00, Q := 0x5555, R := 0x6666 }
    8 0xff).map (fun t => (t.P, t.A, t.B, t.Q, t.R)) = some (0x0000, 0x80, 0x01, 0x8001, 0x0000) := by decide

theorem test_swx : (stepped { State.reset with V := true, X := 0x1234 }
    8 0xaa).map (fun t => (t.P, t.V, t.X)) = some (0x0101, true, 0x1234) := by decide

/-- K = 0x8001 by 8 places is 0x0180 (spec/95, table of TKs). -/
theorem test_tk8 : (stepped { State.reset with A := 0x80, B := 0x01, V := true } 8 0x88).map (fun t => (t.K, t.V))
    = some (0x0180, true) := by decide

/-- The page switch of SW.X is signalled in a full cycle of tA type FE (R330). -/
theorem test_swx_event : (stepped State.reset 8 0xaa).map (fun t => t.platform.events)
    = some [.pageSwitch .BX .FE] := by decide

/-- H.. before NO1: input 0xab for K = 0x1234 into A, two BP signals (spec/95 section 3.9). -/
def beforeInput : State :=
  { poke { State.reset with A := 0x12, B := 0x34, V := true } 0x0101 0x90 with
    platform := { (poke State.reset 0x0101 0x90).platform with inputs := [0xab] } }

theorem test_h_input : (match execH beforeInput with
      | .next t => some (t.P, t.A, t.B, t.V, t.cycles)
      | _ => none) = some (0x0101, 0xab, 0x34, true, 2)
    ∧ (match execH beforeInput with
      | .next t => t.platform.events
      | _ => []) = [.pageSwitch .BP .FE, .ioRead 0x1234 0xab, .pageSwitch .BP .HA] := by decide

/-- H.. H..: K = 0xbeef is shown, the CPU halts with P at the second H..; H.. before J..: nothing but P, one cycle
(spec/95 section 3.9). -/
theorem test_h_halt_and_jump : (stepped { State.reset with A := 0xbe, B := 0xef } 8 0x00).map
      (fun t => (t.P, t.A, t.halted, t.platform.output)) = some (0x0101, 0xbe, true, some 0xbeef)
    ∧ (stepped { State.reset with A := 0x12, B := 0x34 } 16 0xff00).map
      (fun t => (t.P, t.A, t.IR, t.halted, t.cycles)) = some (0x0101, 0x12, 0xff, false, 1) := by decide

/-- The bus-cycle types of R51: FE is 8, KA is 2, BP is 4, RZ is f; FE belongs to tA, BP to tB. -/
theorem test_bus_types : BusType.FE.code = 0x8 ∧ BusType.KA.code = 0x2 ∧ BusType.BP.code = 0x4 ∧ BusType.RZ.code = 0xf
    ∧ BusType.FE.half = .tA ∧ BusType.BP.half = .tB := by decide

/-- The cycle counts of R457 for a taken and a not taken branch, for NOL ff and for a memory read. -/
theorem test_cycles : (stepped State.reset 16 0x0050).map (·.cycles) = some 3
    ∧ (stepped { State.reset with A := 0x80 } 16 0x0044).map (·.cycles) = some 2
    ∧ (stepped State.reset 16 0xff57).map (·.cycles) = some 257
    ∧ (stepped State.reset 8 0x6c).map (·.cycles) = some 2 := by decide

/-- What the bus shows of a memory read: RX with the address in X (R52). -/
theorem test_bus_record : (stepped { poke State.reset 0x4000 0x3c with X := 0x4000 } 8 0x6c).map (·.bus)
    = some { fetch := 0x0101, operand := none, data := some { type := .RX, addr := 0x4000, byte := 0x3c }
             unstated := 0 } := by decide

/-- The third cycle of a taken branch and the second of NO2 are the ones whose activity the spec does not state (N9). -/
theorem test_bus_unstated : (stepped State.reset 16 0x0050).map (·.bus.unstated) = some 1
    ∧ (stepped State.reset 8 0x80).map (·.bus.unstated) = some 1
    ∧ (stepped { State.reset with A := 0x80 } 16 0x0044).map (·.bus.unstated) = some 0 := by decide

/-- A state whose platform is another one than the default, in its state 7 (R55). -/
def elsewhere : State := { State.reset with platform := { State.reset.platform with external := some 7 } }

/-- On another platform the fetch of NO1 delivers what that platform's read delivers, and changes its state (R55, U11). -/
theorem test_other_platform_fetch : (match exec .no1 elsewhere with
      | .next t => (t.IR, t.platform.external)
      | _ => (0, none)) = ((Config.platformRead .FE 0x0101 7).1, some (Config.platformRead .FE 0x0101 7).2) := rfl

/-- There GT. nn reads its operand first, then the opcode, each with its type and in the state the one before left. -/
theorem test_other_platform_operand : (match exec (.gt 0x12) elsewhere with
      | .next t => (t.A, t.IR)
      | _ => (0, 0))
    = (0x12, (Config.platformRead .FE 0x0102 (Config.platformRead .RP 0x0101 7).2).1) := rfl

/-- There SW.X fetches, then signals BX with tA type FE (R330, R454). -/
theorem test_other_platform_switch : (match exec .swX elsewhere with
      | .next t => t.platform.external
      | _ => none)
    = some (Config.platformPageSwitch .BX .FE (Config.platformRead .FE 0x0101 7).2) := rfl

/-- Writing the byte that unlisted addresses read as takes the entry out, so equal memories are equal data. -/
theorem test_memory_canonical : (Memory.set (Memory.set [] 5 0x11) 5 0x00) = [] ∧
    Memory.set (Memory.set [] 7 0x22) 5 0x11 = [(5, 0x11), (7, 0x22)] := by decide

/-- The assembler text of R89. -/
theorem test_render : render (.oVZ 0x10) = "O.VZ 10" ∧ render .j = "J.." := by decide

/-! Resets and the end of a run. -/

def resetInput : ResetInput := { start := 0x8000, a0 := 0x5a }

/-- A step with RES active loads P, R and A and clears the halted state (R450). -/
theorem test_reset_from_halted : (match step { State.reset with halted := true, res := some resetInput } with
      | .next t => some (t.P, t.R, t.A, t.halted)
      | _ => none) = some (0x8000, 0x8000, 0x5a, false) := by decide

/-- The halted CPU has no successor (R407). -/
theorem test_halted_stops : step { State.reset with halted := true } = .fault .halted := rfl

/-- State.reset is what the reset entry leaves with START, A0 and the zeros of log entry 2 (R38, R450). -/
theorem test_reset_is_entry : State.resetEntry { State.reset with P := 0x1234, halted := true }
    { start := Config.start, a0 := Config.a0 } { B := 0, Q := 0, S := 0, X := 0, Y := 0, Z := 0, V := false }
    = State.reset := by decide

/-! Witnesses: for each statement with hypotheses, a concrete state and operands that meet them together. -/

/-- STMX with the address next to P + 1, where the opcode prefetched is the byte before the store. -/
def storing : State := { State.reset with X := 0x0102, A := 0x99 }

theorem witness_StoreWritesOneByte : storing.onDefault ∧ storing.platform.mem.wf = true ∧ storing.X ≠ storing.P + 1 :=
  ⟨rfl, by decide⟩

/-- The race itself: the store goes to P + 1. -/
theorem witness_StoreWritesOneByte_race : State.reset.platform.mem.wf = true
    ∧ { State.reset with X := 0x0101 }.X = State.reset.P + 1 := by decide

/-- Both clauses at their boundary: nn = 1 and nn = 0 (R285). -/
theorem witness_LongNoOperation : (0x01 : Byte) ≠ 0 ∧ (0xff : Byte) ≠ 0 := by decide

theorem witness_HBeforeJSwitchesThePage :
    (poke State.reset 0x0101 0xff).memRead .FE (State.reset.P + 1) = 0xff := by decide

theorem witness_HBeforeAnotherOpcodeInputsA :
    (poke State.reset 0x0101 0x01).memRead .FE (State.reset.P + 1) ≠ 0xff
      ∧ (poke State.reset 0x0101 0x01).memRead .FE (State.reset.P + 1) ≠ 0x00
      ∧ (poke State.reset 0x0101 0xfe).memRead .FE (State.reset.P + 1) ≠ 0xff
      ∧ (poke State.reset 0x0101 0x01).onDefault := ⟨by decide, by decide, by decide, rfl⟩

theorem witness_HBeforeHHalts : State.reset.memRead .FE (State.reset.P + 1) = 0x00 := by decide

/-- The premise of what the terms of Safety.lean say of the default platform (`Runs`, `RunsLoad`, `RunsStore`,
`RunsSignals`) is met after reset, and not everywhere. -/
theorem witness_onDefault : State.reset.onDefault ∧ ¬ elsewhere.onDefault := ⟨rfl, fun h => nomatch h⟩

/-- Each clause: another platform, and the default one with canonical memory and two addresses. -/
theorem witness_PlatformsAreTheDefaultOrTheParameter : elsewhere.platform.external = some 7
    ∧ State.reset.platform.external = none ∧ State.reset.platform.mem.wf = true ∧ (0x0001 : Word) ≠ 0x0000 := by decide

theorem witness_CallAndReturn : ∃ t t' u v : State, exec .j State.reset = .next t ∧ t'.Q = t.Q
    ∧ exec .gtQ t' = .next u ∧ exec .j u = .next v := ⟨_, _, _, _, rfl, rfl, rfl, rfl⟩

theorem witness_EncodeOfDecodeIsTheBytes : decode [0x62, 0x7f, 0x9d] = .ok (.av 0x7f, [0x9d]) := rfl

/-- Both clauses: `NO1` prefetched and at P. -/
def atNo1 : State := State.reset.withFetchWord 8 0x90

theorem witness_StepRunsTheDecodedInstruction : atNo1.executes ∧ atNo1.onDefault ∧ atNo1.IR = atNo1.byteAt atNo1.P
    ∧ decode [atNo1.IR, atNo1.memRead .RP (atNo1.P + 1)] = .ok (.no1, [0x00])
    ∧ decode [atNo1.byteAt atNo1.P, atNo1.byteAt (atNo1.P + 1)] = .ok (.no1, [0x00]) :=
  ⟨⟨rfl, rfl⟩, rfl, rfl, rfl, rfl⟩

theorem witness_PlacedWordRunsNext : State.reset.platform.mem.wf = true
    ∧ decodeTableWord 16 0x7f62 = some (.av 0x7f) := by decide

/-- Both clauses on the platform: from a halted CPU and from a running one that is about to store. -/
theorem witness_ResetLoadsPRAndA : { State.reset with halted := true, res := some resetInput }.res = some resetInput
    ∧ { State.reset with halted := true }.halted = true
    ∧ { State.reset with IR := 0x68, res := some resetInput }.halted = false
    ∧ State.reset.platform.external = none ∧ State.reset.platform.mem.wf = true := by decide

theorem witness_EveryStepKeepsTheInvariant : State.reset.Inv ∧ ∃ t, step State.reset = .next t :=
  ⟨⟨rfl, fun h => nomatch h⟩, _, rfl⟩

/-- A step into the halted state: the invariant of the next state is not empty. -/
theorem witness_EveryStepKeepsTheInvariant_halt : ∃ t, step State.reset = .next t ∧ t.halted = true := ⟨_, rfl, rfl⟩

theorem witness_ThePrefetchedOpcodeIsTheByteAtP : atNo1.onDefault ∧ ∃ t, step atNo1 = .next t ∧ ¬ atNo1.fetchRace :=
  ⟨rfl, _, rfl, fun h => by
    rcases h.2 with ⟨h, -⟩ | ⟨h, -⟩ | ⟨h, -⟩ <;> exact absurd h (by decide)⟩

/-- The race the statement leaves open: STMX to P + 1. -/
theorem witness_ThePrefetchedOpcodeIsTheByteAtP_race :
    (State.withFetchWord { State.reset with X := 0x0101 } 8 0x68).fetchRace := ⟨⟨rfl, rfl⟩, .inl ⟨rfl, rfl⟩⟩

/-- One witness for each clause: Q and R by J.., V by SE.V, memory by STMX, halt and output by H.., events by SW.X. -/
theorem witness_OnlyTheseInstructionsWriteTheseRegisters :
    (∃ t, exec .j State.reset = .next t ∧ t.Q ≠ State.reset.Q ∧ t.R ≠ State.reset.R)
    ∧ (∃ t, exec .seV State.reset = .next t ∧ t.V ≠ State.reset.V)
    ∧ (∃ t, exec .stmx storing = .next t ∧ t.byteAt 0x0102 ≠ storing.byteAt 0x0102)
    ∧ (∃ t, exec .h State.reset = .next t ∧ t.halted ≠ State.reset.halted
        ∧ t.platform.output ≠ State.reset.platform.output ∧ t.platform.events ≠ State.reset.platform.events)
    ∧ (∃ t, exec .h beforeInput = .next t ∧ t.platform.inputs ≠ beforeInput.platform.inputs) :=
  ⟨⟨_, rfl, by decide, by decide⟩, ⟨_, rfl, by decide⟩, ⟨_, rfl, by decide⟩,
    ⟨_, rfl, by decide, by decide, by decide⟩, ⟨_, rfl, by decide⟩⟩

theorem witness_OnlyGtQReadsQ : Instr.anB ≠ .gtQ ∧ Instr.j ≠ .gtQ ∧ (∃ t, exec .anB State.reset = .next t)
    ∧ (∃ t, exec .j State.reset = .next t) := ⟨by decide, by decide, ⟨_, rfl⟩, ⟨_, rfl⟩⟩

/-- One witness for each clause: a one-cycle instruction, the page switch, `H..` in its three cases, an instruction whose
sequence is not stated, and a reset. -/
theorem witness_KnownFullCycles :
    (∃ t, exec .no1 atNo1 = .next t ∧ t.fullCycles = some [(.FE, .BN)])
    ∧ (∃ t, exec .swX atNo1 = .next t ∧ t.fullCycles = some [(.FE, .BX)])
    ∧ (∃ t, exec .h (poke State.reset 0x0101 0xff) = .next t ∧ t.fullCycles = some [(.FE, .BP)])
    ∧ (∃ t, exec .h State.reset = .next t ∧ t.fullCycles = some [(.FE, .BP), (.KA, .BN)])
    ∧ (∃ t, exec .h beforeInput = .next t ∧ t.fullCycles = some [(.FE, .BP), (.HA, .BP)])
    ∧ (∃ t, exec .no2 atNo1 = .next t ∧ t.fullCycles = none)
    ∧ (∃ t, { State.reset with res := some resetInput }.res = some resetInput
        ∧ step { State.reset with res := some resetInput } = .next t) :=
  ⟨⟨_, rfl, by decide⟩, ⟨_, rfl, by decide⟩, ⟨_, rfl, by decide⟩, ⟨_, rfl, by decide⟩, ⟨_, rfl, by decide⟩,
    ⟨_, rfl, by decide⟩, ⟨_, rfl, rfl⟩⟩

theorem witness_TimingAndBusRecordInfluenceNothing : ∃ t, step atNo1 = .next t := ⟨_, rfl⟩

end Sys2Proof.Tests.Slice0
end

section
/-! Certificate of O5, the logic and the copies between A and B (R100, R101, R102, R106, R107 of spec/40_alu8.md). First what
every one-byte instruction without data access shares, then the two shapes of this family, then the five instructions. -/

namespace Sys2Proof.Machine

/-! One-byte instructions. -/

/-- The one-byte cell of an opcode gives both directions of the encoding (R80, R84). -/
theorem IsEncodedAs.of_f1 {i : Instr} {op : Byte} (hc : opcodeCell op = .f1 i) (he : encode i = [op]) :
    IsEncodedAs i [op] :=
  ⟨he, decode_of_f1 hc⟩

/-- `P <- P + 1` in 16 bits is the exact successor modulo 2^16 (R27, R28). -/
theorem toNat_add_one_mod (p : Word) : ((p + 1).toNat : Int) = ((p.toNat : Int) + 1) % 65536 := by
  simp [BitVec.toNat_add]

/-- A one-byte instruction that answers a state retired at P + 1 runs as the statements say it. -/
theorem RunsOneByte.of_retired {i : Instr} {op : Byte} {n : Nat} {written : List Part} {s t : State}
    {post : State → Prop} (he : IsEncodedAs i [op]) (h : exec i s = .next t) (hp : post t)
    (hr : Retired (s.P + 1) n none s t) (hk : KeepsBut written s t) : RunsOneByte i op n written s post :=
  ⟨he, Runs.of_retired h hp hr (toNat_add_one_mod s.P) hk⟩

/-- An instruction that is an 8-bit operation on A with B and leaves V alone. -/
theorem RunsOneByte.of_alu8_B {i : Instr} {op : Byte} {f : Byte → Byte → Byte} {s : State} (he : IsEncodedAs i [op])
    (h : exec i s = alu8 f .B s) : RunsOneByte i op 1 [.A] s (fun t => t.A = f s.A s.B) := by
  obtain ⟨hA, hr, hk⟩ := alu8_next (f := f) (src := .B) (s := s) rfl
  exact .of_retired he h hA hr hk

/-- An instruction that is a write of B. -/
theorem RunsOneByte.of_writeB {i : Instr} {op v : Byte} {s : State} (he : IsEncodedAs i [op])
    (h : exec i s = writeB v s) : RunsOneByte i op 1 [.B] s (fun t => t.B = v) := by
  obtain ⟨hB, hr, hk⟩ := writeB_next (v := v) (s := s) rfl
  exact .of_retired he h hB hr hk

/-! The five instructions. -/

theorem exec_anB (s : State) : exec .anB s = alu8 (· &&& ·) .B s := rfl

theorem exec_nrB (s : State) : exec .nrB s = alu8 (fun a m => ~~~(a ||| m)) .B s := rfl

theorem exec_xrB (s : State) : exec .xrB s = alu8 (· ^^^ ·) .B s := rfl

theorem exec_gtB (s : State) : exec .gtB s = alu8 (fun _ m => m) .B s := rfl

theorem exec_stB (s : State) : exec .stB s = writeB s.A s := rfl

/-- Settles O5: AN.B, NR.B, XR.B and GT.B are one operation on A with B each, ST.B is a write of B. -/
theorem logicAndCopyWithB : Obligations.LogicAndCopyWithB := by
  intro s
  refine ⟨?anB, ?nrB, ?xrB, ?gtB, ?stB⟩
  case anB => exact .of_alu8_B (.of_f1 rfl rfl) (exec_anB s)
  case nrB => exact .of_alu8_B (.of_f1 rfl rfl) (exec_nrB s)
  case xrB => exact .of_alu8_B (.of_f1 rfl rfl) (exec_xrB s)
  case gtB => exact .of_alu8_B (.of_f1 rfl rfl) (exec_gtB s)
  case stB => exact .of_writeB (.of_f1 rfl rfl) (exec_stB s)

end Sys2Proof.Machine
end

section
/-! Certificate of O13 and O15, the additions and subtractions on K (R150, R153 to R164 of spec/42_arith16.md). First the two
shapes of this family, a write of K and V and a write of one 16-bit register, then what K is after a sum and after a
difference, then the instructions. -/

namespace Sys2Proof.Machine

/-! One-byte instructions that write K, or another 16-bit register. -/

/-- What is said of the next state may be replaced by what follows from it. -/
theorem RunsOneByte.imp {i : Instr} {op : Byte} {n : Nat} {written : List Part} {s : State} {post post' : State → Prop}
    (h : RunsOneByte i op n written s post) (hp : ∀ t, post t → post' t) : RunsOneByte i op n written s post' := by
  obtain ⟨he, t, hx, ht, hrest⟩ := h
  exact ⟨he, t, hx, hp t ht, hrest⟩

/-- An instruction that is a write of K and V. -/
theorem RunsOneByte.of_writeKV {i : Instr} {op : Byte} {x : Word × Bool} {s : State} (he : IsEncodedAs i [op])
    (h : exec i s = writeKV x s) : RunsOneByte i op 1 [.A, .B, .V] s (fun t => t.K = x.1 ∧ t.V = x.2) := by
  obtain ⟨hK, hV, hr, hk⟩ := writeKV_next (x := x) (s := s) rfl
  exact .of_retired he h ⟨hK, hV⟩ hr hk

/-- An instruction that is a write of one 16-bit register. -/
theorem RunsOneByte.of_write16 {i : Instr} {op : Byte} {r : Reg16} {v : Word} {s : State} (he : IsEncodedAs i [op])
    (h : exec i s = write16 r v s) : RunsOneByte i op 1 r.parts s (fun t => t.get16 r = v) := by
  obtain ⟨hv, hr, hk⟩ := write16_next (r := r) (v := v) (s := s) rfl
  exact .of_retired he h hv hr hk

/-- An addition with carry into K and V: both together are the exact sum (R9). -/
theorem RunsOneByte.of_addCarryKV {i : Instr} {op : Byte} {a b : Word} {c : Bool} {s : State} (he : IsEncodedAs i [op])
    (h : exec i s = writeKV (addCarry a b c) s) :
    RunsOneByte i op 1 [.A, .B, .V] s (fun t => t.K.toNat + 65536 * t.V.toNat = a.toNat + b.toNat + c.toNat) := by
  refine (RunsOneByte.of_writeKV he h).imp fun t ⟨hK, hV⟩ => ?_
  rw [hK, hV]
  exact addCarry_sum a b c

/-- An addition into K without carry: the sum modulo 2^16 (R9). -/
theorem RunsOneByte.of_addK {i : Instr} {op : Byte} {a b : Word} {s : State} (he : IsEncodedAs i [op])
    (h : exec i s = write16 .K (a + b) s) :
    RunsOneByte i op 1 [.A, .B] s (fun t => t.K.toNat = (a.toNat + b.toNat) % 65536) := by
  refine (RunsOneByte.of_write16 he h).imp fun t (hK : t.K = a + b) => ?_
  rw [hK]
  exact BitVec.toNat_add a b

/-- The 16-bit difference is the exact difference modulo 2^16, also where that is negative (R9). -/
theorem toNat_sub_emod (a b : Word) : ((a - b).toNat : Int) = ((a.toNat : Int) - b.toNat) % 65536 := by
  rw [BitVec.toNat_sub]
  omega

/-- A subtraction into K without borrow: the difference modulo 2^16 (R9). -/
theorem RunsOneByte.of_subK {i : Instr} {op : Byte} {a b : Word} {s : State} (he : IsEncodedAs i [op])
    (h : exec i s = write16 .K (a - b) s) :
    RunsOneByte i op 1 [.A, .B] s (fun t => (t.K.toNat : Int) = ((a.toNat : Int) - b.toNat) % 65536) := by
  refine (RunsOneByte.of_write16 he h).imp fun t (hK : t.K = a - b) => ?_
  rw [hK]
  exact toNat_sub_emod a b

/-! The instructions. -/

theorem exec_avS (s : State) : exec .avS s = writeKV (addCarry s.K s.S s.V) s := rfl

theorem exec_adS (s : State) : exec .adS s = write16 .K (s.K + s.S) s := rfl

theorem exec_adX (s : State) : exec .adX s = write16 .K (s.K + s.X) s := rfl

theorem exec_adY (s : State) : exec .adY s = write16 .K (s.K + s.Y) s := rfl

theorem exec_adZ (s : State) : exec .adZ s = write16 .K (s.K + s.Z) s := rfl

theorem exec_sdS (s : State) : exec .sdS s = write16 .K (s.K - s.S) s := rfl

theorem exec_sdX (s : State) : exec .sdX s = write16 .K (s.K - s.X) s := rfl

theorem exec_sdY (s : State) : exec .sdY s = write16 .K (s.K - s.Y) s := rfl

theorem exec_sdZ (s : State) : exec .sdZ s = write16 .K (s.K - s.Z) s := rfl

theorem exec_ldS (s : State) : exec .ldS s = write16 .K (s.S - s.K) s := rfl

theorem exec_ldX (s : State) : exec .ldX s = write16 .K (s.X - s.K) s := rfl

theorem exec_ldY (s : State) : exec .ldY s = write16 .K (s.Y - s.K) s := rfl

theorem exec_ldZ (s : State) : exec .ldZ s = write16 .K (s.Z - s.K) s := rfl

/-- Settles O13: AV.S is an addition with carry into K and V. -/
theorem additionWithCarry16 : Obligations.AdditionWithCarry16 :=
  fun s => .of_addCarryKV (.of_f1 rfl rfl) (exec_avS s)

/-- Settles O15: each AD is an addition into K, each SD and each LD a subtraction into K, none with V. -/
theorem plainArithmetic16 : Obligations.PlainArithmetic16 := by
  intro s
  refine ⟨?adS, ?sdS, ?ldS, ?adX, ?sdX, ?ldX, ?adY, ?sdY, ?ldY, ?adZ, ?sdZ, ?ldZ⟩
  case adS => exact .of_addK (.of_f1 rfl rfl) (exec_adS s)
  case adX => exact .of_addK (.of_f1 rfl rfl) (exec_adX s)
  case adY => exact .of_addK (.of_f1 rfl rfl) (exec_adY s)
  case adZ => exact .of_addK (.of_f1 rfl rfl) (exec_adZ s)
  case sdS => exact .of_subK (.of_f1 rfl rfl) (exec_sdS s)
  case sdX => exact .of_subK (.of_f1 rfl rfl) (exec_sdX s)
  case sdY => exact .of_subK (.of_f1 rfl rfl) (exec_sdY s)
  case sdZ => exact .of_subK (.of_f1 rfl rfl) (exec_sdZ s)
  case ldS => exact .of_subK (.of_f1 rfl rfl) (exec_ldS s)
  case ldX => exact .of_subK (.of_f1 rfl rfl) (exec_ldX s)
  case ldY => exact .of_subK (.of_f1 rfl rfl) (exec_ldY s)
  case ldZ => exact .of_subK (.of_f1 rfl rfl) (exec_ldZ s)

end Sys2Proof.Machine
end

section
/-! Certificate of O16 to O20, the transfers, byte selectors, exchanges and clears (R170 to R207, R221 to R223 of
spec/43_transfer16.md and spec/44_flags_unary.md). First the halves of K and of a zero-extended byte, then the shapes of this
family beside the write of one 16-bit register (a write of A, a write of K seen as its halves, a write of a zero-extended
byte, an exchange), then the instructions. -/

namespace Sys2Proof.Machine

/-! The halves of K. -/

/-- A is the high byte of K (R23). -/
theorem State.highByte_K (s : State) : highByte s.K = s.A := highByte_append s.A s.B

/-- B is the low byte of K (R23). -/
theorem State.lowByte_K (s : State) : lowByte s.K = s.B := lowByte_append s.A s.B

@[simp] theorem highByte_zext16 (v : Byte) : highByte (zext16 v) = 0 := by
  apply BitVec.eq_of_toNat_eq
  rw [highByte_toNat, zext16_toNat]
  exact Nat.div_eq_of_lt v.isLt

@[simp] theorem lowByte_zext16 (v : Byte) : lowByte (zext16 v) = v := by
  apply BitVec.eq_of_toNat_eq
  rw [lowByte_toNat, zext16_toNat]
  exact Nat.mod_eq_of_lt v.isLt

/-! One-byte instructions that write A, the halves of K, a zero-extended byte, or two 16-bit registers. -/

/-- An instruction that is a write of A. -/
theorem RunsOneByte.of_writeA {i : Instr} {op v : Byte} {s : State} (he : IsEncodedAs i [op])
    (h : exec i s = writeA v s) : RunsOneByte i op 1 [.A] s (fun t => t.A = v) := by
  obtain ⟨hA, hr, hk⟩ := writeA_next (v := v) (s := s) rfl
  exact .of_retired he h hA hr hk

/-- A write of the low byte of a register into A. -/
theorem RunsOneByte.of_writeA_lowByte {i : Instr} {op : Byte} {w : Word} {s : State} (he : IsEncodedAs i [op])
    (h : exec i s = writeA (lowByte w) s) : RunsOneByte i op 1 [.A] s (fun t => t.A.toNat = w.toNat % 256) :=
  (RunsOneByte.of_writeA he h).imp fun _ hA => hA ▸ lowByte_toNat w

/-- A write of the high byte of a register into A. -/
theorem RunsOneByte.of_writeA_highByte {i : Instr} {op : Byte} {w : Word} {s : State} (he : IsEncodedAs i [op])
    (h : exec i s = writeA (highByte w) s) : RunsOneByte i op 1 [.A] s (fun t => t.A.toNat = w.toNat / 256) :=
  (RunsOneByte.of_writeA he h).imp fun _ hA => hA ▸ highByte_toNat w

/-- A write of K writes its high byte to A and its low byte to B (R23). -/
theorem RunsOneByte.of_writeK_halves {i : Instr} {op : Byte} {v : Word} {s : State} (he : IsEncodedAs i [op])
    (h : exec i s = write16 .K v s) : RunsOneByte i op 1 [.A, .B] s (fun t => t.A = highByte v ∧ t.B = lowByte v) := by
  refine (RunsOneByte.of_write16 he h).imp fun t (hK : t.K = v) => ?_
  rw [← hK]
  exact ⟨t.highByte_K.symm, t.lowByte_K.symm⟩

/-- A write of a zero-extended byte keeps the byte's value (R7). -/
theorem RunsOneByte.of_write16_zext {i : Instr} {op v : Byte} {r : Reg16} {s : State} (he : IsEncodedAs i [op])
    (h : exec i s = write16 r (zext16 v) s) :
    RunsOneByte i op 1 r.parts s (fun t => (t.get16 r).toNat = v.toNat) :=
  (RunsOneByte.of_write16 he h).imp fun _ hv => hv ▸ zext16_toNat v

/-- An instruction that exchanges two different 16-bit registers: each gets the old value of the other. -/
theorem RunsOneByte.of_exchange16 {i : Instr} {op : Byte} {r q : Reg16} {s : State} (hrq : r ≠ q)
    (he : IsEncodedAs i [op]) (h : exec i s = exchange16 r q s) :
    RunsOneByte i op 1 (r.parts ++ q.parts) s (fun t => t.get16 r = s.get16 q ∧ t.get16 q = s.get16 r) := by
  obtain ⟨hr, hq, hret, hk⟩ := exchange16_next (s := s) hrq rfl
  exact .of_retired he h ⟨hr, hq⟩ hret hk

/-! The instructions. -/

theorem exec_gtS (s : State) : exec .gtS s = write16 .K s.S s := rfl

theorem exec_gtX (s : State) : exec .gtX s = write16 .K s.X s := rfl

theorem exec_gtY (s : State) : exec .gtY s = write16 .K s.Y s := rfl

theorem exec_gtZ (s : State) : exec .gtZ s = write16 .K s.Z s := rfl

theorem exec_stS (s : State) : exec .stS s = write16 .S s.K s := rfl

theorem exec_stX (s : State) : exec .stX s = write16 .X s.K s := rfl

theorem exec_stY (s : State) : exec .stY s = write16 .Y s.K s := rfl

theorem exec_stZ (s : State) : exec .stZ s = write16 .Z s.K s := rfl

theorem exec_rsX (s : State) : exec .rsX s = write16 .S s.X s := rfl

theorem exec_rsY (s : State) : exec .rsY s = write16 .S s.Y s := rfl

theorem exec_rsZ (s : State) : exec .rsZ s = write16 .S s.Z s := rfl

theorem exec_ssX (s : State) : exec .ssX s = write16 .X s.S s := rfl

theorem exec_ssY (s : State) : exec .ssY s = write16 .Y s.S s := rfl

theorem exec_ssZ (s : State) : exec .ssZ s = write16 .Z s.S s := rfl

theorem exec_slK (s : State) : exec .slK s = write16 .K (zext16 s.A) s := rfl

theorem exec_slS (s : State) : exec .slS s = write16 .S (zext16 s.A) s := rfl

theorem exec_slX (s : State) : exec .slX s = write16 .X (zext16 s.A) s := rfl

theorem exec_slY (s : State) : exec .slY s = write16 .Y (zext16 s.A) s := rfl

theorem exec_slZ (s : State) : exec .slZ s = write16 .Z (zext16 s.A) s := rfl

theorem exec_glS (s : State) : exec .glS s = writeA (lowByte s.S) s := rfl

theorem exec_glX (s : State) : exec .glX s = writeA (lowByte s.X) s := rfl

theorem exec_glY (s : State) : exec .glY s = writeA (lowByte s.Y) s := rfl

theorem exec_glZ (s : State) : exec .glZ s = writeA (lowByte s.Z) s := rfl

theorem exec_ghS (s : State) : exec .ghS s = writeA (highByte s.S) s := rfl

theorem exec_ghX (s : State) : exec .ghX s = writeA (highByte s.X) s := rfl

theorem exec_ghY (s : State) : exec .ghY s = writeA (highByte s.Y) s := rfl

theorem exec_ghZ (s : State) : exec .ghZ s = writeA (highByte s.Z) s := rfl

theorem exec_exS (s : State) : exec .exS s = exchange16 .K .S s := rfl

theorem exec_exX (s : State) : exec .exX s = exchange16 .K .X s := rfl

theorem exec_exY (s : State) : exec .exY s = exchange16 .K .Y s := rfl

theorem exec_exZ (s : State) : exec .exZ s = exchange16 .K .Z s := rfl

theorem exec_esX (s : State) : exec .esX s = exchange16 .S .X s := rfl

theorem exec_esY (s : State) : exec .esY s = exchange16 .S .Y s := rfl

theorem exec_esZ (s : State) : exec .esZ s = exchange16 .S .Z s := rfl

theorem exec_zoS (s : State) : exec .zoS s = write16 .S 0 s := rfl

theorem exec_zoX (s : State) : exec .zoX s = write16 .X 0 s := rfl

theorem exec_zoY (s : State) : exec .zoY s = write16 .Y 0 s := rfl

theorem exec_zoZ (s : State) : exec .zoZ s = write16 .Z 0 s := rfl

theorem exec_zoK (s : State) : exec .zoK s = write16 .K 0 s := rfl

theorem exec_zoA (s : State) : exec .zoA s = writeA 0 s := rfl

theorem exec_zoB (s : State) : exec .zoB s = writeB 0 s := rfl

/-- Settles O16: each GT is a write of K, each ST a write of the register. -/
theorem transfersWithK : Obligations.TransfersWithK := by
  intro s
  refine ⟨?gtS, ?gtX, ?gtY, ?gtZ, ?stS, ?stX, ?stY, ?stZ⟩
  case gtS => exact .of_write16 (r := .K) (.of_f1 rfl rfl) (exec_gtS s)
  case gtX => exact .of_write16 (r := .K) (.of_f1 rfl rfl) (exec_gtX s)
  case gtY => exact .of_write16 (r := .K) (.of_f1 rfl rfl) (exec_gtY s)
  case gtZ => exact .of_write16 (r := .K) (.of_f1 rfl rfl) (exec_gtZ s)
  case stS => exact .of_write16 (r := .S) (.of_f1 rfl rfl) (exec_stS s)
  case stX => exact .of_write16 (r := .X) (.of_f1 rfl rfl) (exec_stX s)
  case stY => exact .of_write16 (r := .Y) (.of_f1 rfl rfl) (exec_stY s)
  case stZ => exact .of_write16 (r := .Z) (.of_f1 rfl rfl) (exec_stZ s)

/-- Settles O17: each RS is a write of S, each SS a write of the register, each SL a write of zero-extended A, for SL.K
read off the halves of K. -/
theorem transfersWithSAndZeroExtendingLoadsOfA : Obligations.TransfersWithSAndZeroExtendingLoadsOfA := by
  intro s
  refine ⟨?rsX, ?rsY, ?rsZ, ?ssX, ?ssY, ?ssZ, ?slK, ?slS, ?slX, ?slY, ?slZ⟩
  case rsX => exact .of_write16 (r := .S) (.of_f1 rfl rfl) (exec_rsX s)
  case rsY => exact .of_write16 (r := .S) (.of_f1 rfl rfl) (exec_rsY s)
  case rsZ => exact .of_write16 (r := .S) (.of_f1 rfl rfl) (exec_rsZ s)
  case ssX => exact .of_write16 (r := .X) (.of_f1 rfl rfl) (exec_ssX s)
  case ssY => exact .of_write16 (r := .Y) (.of_f1 rfl rfl) (exec_ssY s)
  case ssZ => exact .of_write16 (r := .Z) (.of_f1 rfl rfl) (exec_ssZ s)
  case slK =>
    refine (RunsOneByte.of_writeK_halves (.of_f1 rfl rfl) (exec_slK s)).imp fun t ⟨hA, hB⟩ => ⟨?B, ?A⟩
    case B => exact hB.trans (lowByte_zext16 s.A)
    case A => exact hA.trans (highByte_zext16 s.A)
  case slS => exact .of_write16_zext (r := .S) (.of_f1 rfl rfl) (exec_slS s)
  case slX => exact .of_write16_zext (r := .X) (.of_f1 rfl rfl) (exec_slX s)
  case slY => exact .of_write16_zext (r := .Y) (.of_f1 rfl rfl) (exec_slY s)
  case slZ => exact .of_write16_zext (r := .Z) (.of_f1 rfl rfl) (exec_slZ s)

/-- Settles O18: each GL is a write of the low byte into A, each GH of the high byte. -/
theorem byteSelectors : Obligations.ByteSelectors := by
  intro s
  refine ⟨?glS, ?glX, ?glY, ?glZ, ?ghS, ?ghX, ?ghY, ?ghZ⟩
  case glS => exact .of_writeA_lowByte (.of_f1 rfl rfl) (exec_glS s)
  case glX => exact .of_writeA_lowByte (.of_f1 rfl rfl) (exec_glX s)
  case glY => exact .of_writeA_lowByte (.of_f1 rfl rfl) (exec_glY s)
  case glZ => exact .of_writeA_lowByte (.of_f1 rfl rfl) (exec_glZ s)
  case ghS => exact .of_writeA_highByte (.of_f1 rfl rfl) (exec_ghS s)
  case ghX => exact .of_writeA_highByte (.of_f1 rfl rfl) (exec_ghX s)
  case ghY => exact .of_writeA_highByte (.of_f1 rfl rfl) (exec_ghY s)
  case ghZ => exact .of_writeA_highByte (.of_f1 rfl rfl) (exec_ghZ s)

/-- Settles O19: each EX is an exchange with K, each ES an exchange with S. -/
theorem exchanges : Obligations.Exchanges := by
  intro s
  refine ⟨?exS, ?exX, ?exY, ?exZ, ?esX, ?esY, ?esZ⟩
  case exS => exact .of_exchange16 (r := .K) (q := .S) nofun (.of_f1 rfl rfl) (exec_exS s)
  case exX => exact .of_exchange16 (r := .K) (q := .X) nofun (.of_f1 rfl rfl) (exec_exX s)
  case exY => exact .of_exchange16 (r := .K) (q := .Y) nofun (.of_f1 rfl rfl) (exec_exY s)
  case exZ => exact .of_exchange16 (r := .K) (q := .Z) nofun (.of_f1 rfl rfl) (exec_exZ s)
  case esX => exact .of_exchange16 (r := .S) (q := .X) nofun (.of_f1 rfl rfl) (exec_esX s)
  case esY => exact .of_exchange16 (r := .S) (q := .Y) nofun (.of_f1 rfl rfl) (exec_esY s)
  case esZ => exact .of_exchange16 (r := .S) (q := .Z) nofun (.of_f1 rfl rfl) (exec_esZ s)

/-- Settles O20: each ZO is a write of zero, for ZO.K read off the halves of K. -/
theorem clears : Obligations.Clears := by
  intro s
  refine ⟨?zoS, ?zoX, ?zoY, ?zoZ, ?zoA, ?zoB, ?zoK⟩
  case zoS => exact .of_write16 (r := .S) (.of_f1 rfl rfl) (exec_zoS s)
  case zoX => exact .of_write16 (r := .X) (.of_f1 rfl rfl) (exec_zoX s)
  case zoY => exact .of_write16 (r := .Y) (.of_f1 rfl rfl) (exec_zoY s)
  case zoZ => exact .of_write16 (r := .Z) (.of_f1 rfl rfl) (exec_zoZ s)
  case zoA => exact .of_writeA (.of_f1 rfl rfl) (exec_zoA s)
  case zoB => exact .of_writeB (.of_f1 rfl rfl) (exec_zoB s)
  case zoK => exact .of_writeK_halves (.of_f1 rfl rfl) (exec_zoK s)

end Sys2Proof.Machine
end

section
/-! Certificate of O21, O22 and O24 to O26, the flag instructions, the counts by one, the fill with V, the test for zero and
the rotates of a byte (R210 to R217, R226 to R240 of spec/44_flags_unary.md). First where the bits of a byte go, and what a
count by one is; then the shapes of this family beside the writes of A and of one 16-bit register; then the instructions. -/

namespace Sys2Proof.Machine

/-! Bits of a byte, and counts by one. -/

/-- The byte with bit 7 replaced has the new bit there and bits 6 to 0 as before (R214 to R217). -/
theorem withBit7_replaces (u : Bool) (v : Byte) :
    (withBit7 u v).getLsbD 7 = u ∧ ∀ k : Nat, k < 7 → (withBit7 u v).getLsbD k = v.getLsbD k := by
  refine ⟨?top, fun k hk => ?rest⟩
  case top => rw [withBit7_getLsbD u v 7 (by decide), if_pos rfl]
  case rest => rw [withBit7_getLsbD u v k (by omega), if_neg (by omega)]

/-- Down through V (R236): V goes to bit 7, bit k + 1 to bit k. -/
theorem rotateDown_moves (v : Byte) (c : Bool) :
    (rotateDown v c).1.getLsbD 7 = c ∧ ∀ k : Nat, k < 7 → (rotateDown v c).1.getLsbD k = v.getLsbD (k + 1) := by
  refine ⟨?top, fun k hk => ?rest⟩
  case top => rw [rotateDown_bits v c 7 (by decide), if_pos rfl]
  case rest => rw [rotateDown_bits v c k (by omega), if_neg (by omega)]

/-- Up through V (R238): V goes to bit 0, bit k to bit k + 1. -/
theorem rotateUp_moves (v : Byte) (c : Bool) :
    (rotateUp v c).1.getLsbD 0 = c ∧ ∀ k : Nat, k < 7 → (rotateUp v c).1.getLsbD (k + 1) = v.getLsbD k := by
  refine ⟨?bottom, fun k hk => ?rest⟩
  case bottom => rw [rotateUp_bits v c 0 (by decide), if_pos rfl]
  case rest => rw [rotateUp_bits v c (k + 1) (by omega), if_neg (by omega), Nat.add_sub_cancel]

/-- The test for zero, its two cases in the order of R234. -/
theorem testNonzero_eq (v : Byte) (c : Bool) : testNonzero v c = if v = 0 then c else true := ite_not ..

/-- A byte less one is the exact difference modulo 2^8, also where the byte is zero. -/
theorem toNat_sub_one_byte (a : Byte) : ((a - 1).toNat : Int) = ((a.toNat : Int) - 1) % 256 := by
  rw [BitVec.toNat_sub, show (1 : Byte).toNat = 1 from rfl]
  omega

/-! One-byte instructions that write V, U, or a byte and V. -/

/-- An instruction that is a write of V. -/
theorem RunsOneByte.of_writeV {i : Instr} {op : Byte} {c : Bool} {s : State} (he : IsEncodedAs i [op])
    (h : exec i s = writeV c s) : RunsOneByte i op 1 [.V] s (fun t => t.V = c) := by
  obtain ⟨hV, hr, hk⟩ := writeV_next (c := c) (s := s) rfl
  exact .of_retired he h hV hr hk

/-- An instruction that is a write of U: bit 7 of A and no other (R24). -/
theorem RunsOneByte.of_writeU {i : Instr} {op : Byte} {u : Bool} {s : State} (he : IsEncodedAs i [op])
    (h : exec i s = writeU u s) :
    RunsOneByte i op 1 [.A] s
      (fun t => t.A.getLsbD 7 = u ∧ ∀ k : Nat, k < 7 → t.A.getLsbD k = s.A.getLsbD k) := by
  obtain ⟨hA, hr, hk⟩ := writeU_next (u := u) (s := s) rfl
  exact .of_retired he h (hA ▸ withBit7_replaces u s.A) hr hk

/-- An instruction that is a write of A and V. -/
theorem RunsOneByte.of_writeAV {i : Instr} {op : Byte} {x : Byte × Bool} {s : State} (he : IsEncodedAs i [op])
    (h : exec i s = writeAV x s) : RunsOneByte i op 1 [.A, .V] s (fun t => t.A = x.1 ∧ t.V = x.2) := by
  obtain ⟨hA, hV, hr, hk⟩ := writeAV_next (x := x) (s := s) rfl
  exact .of_retired he h ⟨hA, hV⟩ hr hk

/-- An instruction that is a write of B and V. -/
theorem RunsOneByte.of_writeBV {i : Instr} {op : Byte} {x : Byte × Bool} {s : State} (he : IsEncodedAs i [op])
    (h : exec i s = writeBV x s) : RunsOneByte i op 1 [.B, .V] s (fun t => t.B = x.1 ∧ t.V = x.2) := by
  obtain ⟨hB, hV, hr, hk⟩ := writeBV_next (x := x) (s := s) rfl
  exact .of_retired he h ⟨hB, hV⟩ hr hk

/-- A count up of a 16-bit register, modulo 2^16. -/
theorem RunsOneByte.of_increment16 {i : Instr} {op : Byte} {r : Reg16} {s : State} (he : IsEncodedAs i [op])
    (h : exec i s = write16 r (s.get16 r + 1) s) :
    RunsOneByte i op 1 r.parts s (fun t => (t.get16 r).toNat = ((s.get16 r).toNat + 1) % 65536) :=
  (RunsOneByte.of_write16 he h).imp fun _ hv => hv ▸ BitVec.toNat_add (s.get16 r) 1

/-- A count down of a 16-bit register, modulo 2^16. -/
theorem RunsOneByte.of_decrement16 {i : Instr} {op : Byte} {r : Reg16} {s : State} (he : IsEncodedAs i [op])
    (h : exec i s = write16 r (s.get16 r - 1) s) :
    RunsOneByte i op 1 r.parts s (fun t => ((t.get16 r).toNat : Int) = (((s.get16 r).toNat : Int) - 1) % 65536) :=
  (RunsOneByte.of_write16 he h).imp fun _ hv => hv ▸ toNat_sub_emod (s.get16 r) 1

/-- A write of A rotated by `n` places: bit k goes to bit k + n modulo 8 (R240). -/
theorem RunsOneByte.of_rotlA {i : Instr} {op : Byte} {n : Nat} {s : State} (hn : n < 8) (he : IsEncodedAs i [op])
    (h : exec i s = writeA (rotl s.A n) s) :
    RunsOneByte i op 1 [.A] s (fun t => ∀ k : Nat, k < 8 → t.A.getLsbD ((k + n) % 8) = s.A.getLsbD k) :=
  (RunsOneByte.of_writeA he h).imp fun _ hA k hk => hA ▸ rotl_bits s.A n k hk hn

/-! The instructions. -/

theorem exec_zoV (s : State) : exec .zoV s = writeV false s := rfl

theorem exec_seV (s : State) : exec .seV s = writeV true s := rfl

theorem exec_neV (s : State) : exec .neV s = writeV (!s.V) s := rfl

theorem exec_cpV (s : State) : exec .cpV s = writeV (s.V ^^ s.U) s := rfl

theorem exec_zoU (s : State) : exec .zoU s = writeU false s := rfl

theorem exec_seU (s : State) : exec .seU s = writeU true s := rfl

theorem exec_neU (s : State) : exec .neU s = writeU (!s.U) s := rfl

theorem exec_cpU (s : State) : exec .cpU s = writeU (s.V ^^ s.U) s := rfl

theorem exec_icA (s : State) : exec .icA s = writeA (s.A + 1) s := rfl

theorem exec_icK (s : State) : exec .icK s = write16 .K (s.K + 1) s := rfl

theorem exec_icS (s : State) : exec .icS s = write16 .S (s.S + 1) s := rfl

theorem exec_dcA (s : State) : exec .dcA s = writeA (s.A - 1) s := rfl

theorem exec_dcK (s : State) : exec .dcK s = write16 .K (s.K - 1) s := rfl

theorem exec_dcS (s : State) : exec .dcS s = write16 .S (s.S - 1) s := rfl

theorem exec_pvA (s : State) : exec .pvA s = writeAV (copiesOf s.V, false) s := rfl

theorem exec_pvB (s : State) : exec .pvB s = writeBV (copiesOf s.V, false) s := rfl

theorem exec_tzA (s : State) : exec .tzA s = writeV (testNonzero s.A s.V) s := rfl

theorem exec_tzB (s : State) : exec .tzB s = writeV (testNonzero s.B s.V) s := rfl

theorem exec_rdA (s : State) : exec .rdA s = writeAV (rotateDown s.A s.V) s := rfl

theorem exec_rdB (s : State) : exec .rdB s = writeBV (rotateDown s.B s.V) s := rfl

theorem exec_ruA (s : State) : exec .ruA s = writeAV (rotateUp s.A s.V) s := rfl

theorem exec_ruB (s : State) : exec .ruB s = writeBV (rotateUp s.B s.V) s := rfl

theorem exec_ta1 (s : State) : exec .ta1 s = writeA (rotl s.A 1) s := rfl

theorem exec_ta2 (s : State) : exec .ta2 s = writeA (rotl s.A 2) s := rfl

theorem exec_ta3 (s : State) : exec .ta3 s = writeA (rotl s.A 3) s := rfl

theorem exec_ta4 (s : State) : exec .ta4 s = writeA (rotl s.A 4) s := rfl

theorem exec_ta5 (s : State) : exec .ta5 s = writeA (rotl s.A 5) s := rfl

theorem exec_ta6 (s : State) : exec .ta6 s = writeA (rotl s.A 6) s := rfl

theorem exec_ta7 (s : State) : exec .ta7 s = writeA (rotl s.A 7) s := rfl

/-- Settles O22: each is a write of U. -/
theorem topBitOfAInstructions : Obligations.TopBitOfAInstructions := by
  intro s
  refine ⟨?zoU, ?seU, ?neU, ?cpU⟩
  case zoU => exact .of_writeU (.of_f1 rfl rfl) (exec_zoU s)
  case seU => exact .of_writeU (.of_f1 rfl rfl) (exec_seU s)
  case neU => exact .of_writeU (.of_f1 rfl rfl) (exec_neU s)
  case cpU => exact .of_writeU (.of_f1 rfl rfl) (exec_cpU s)

/-- Settles O24: IC.A and DC.A are writes of A, the others counts of a 16-bit register. -/
theorem countUpAndDown : Obligations.CountUpAndDown := by
  intro s
  refine ⟨?icA, ?icK, ?icS, ?dcA, ?dcK, ?dcS⟩
  case icA => exact (RunsOneByte.of_writeA (.of_f1 rfl rfl) (exec_icA s)).imp fun _ hA => hA ▸ BitVec.toNat_add s.A 1
  case icK => exact .of_increment16 (r := .K) (.of_f1 rfl rfl) (exec_icK s)
  case icS => exact .of_increment16 (r := .S) (.of_f1 rfl rfl) (exec_icS s)
  case dcA => exact (RunsOneByte.of_writeA (.of_f1 rfl rfl) (exec_dcA s)).imp fun _ hA => hA ▸ toNat_sub_one_byte s.A
  case dcK => exact .of_decrement16 (r := .K) (.of_f1 rfl rfl) (exec_dcK s)
  case dcS => exact .of_decrement16 (r := .S) (.of_f1 rfl rfl) (exec_dcS s)

/-- Settles O25: each PV writes copies of V and clears V, each TZ is a write of V. -/
theorem carryFillAndZeroTest : Obligations.CarryFillAndZeroTest := by
  intro s
  refine ⟨?pvA, ?pvB, ?tzA, ?tzB⟩
  case pvA =>
    exact (RunsOneByte.of_writeAV (.of_f1 rfl rfl) (exec_pvA s)).imp fun _ ⟨hA, hV⟩ =>
      ⟨hV, fun k hk => hA ▸ copiesOf_bits s.V k hk⟩
  case pvB =>
    exact (RunsOneByte.of_writeBV (.of_f1 rfl rfl) (exec_pvB s)).imp fun _ ⟨hB, hV⟩ =>
      ⟨hV, fun k hk => hB ▸ copiesOf_bits s.V k hk⟩
  case tzA =>
    exact (RunsOneByte.of_writeV (.of_f1 rfl rfl) (exec_tzA s)).imp fun _ hV => hV.trans (testNonzero_eq s.A s.V)
  case tzB =>
    exact (RunsOneByte.of_writeV (.of_f1 rfl rfl) (exec_tzB s)).imp fun _ hV => hV.trans (testNonzero_eq s.B s.V)

/-- Settles O26: each RD and each RU writes a byte and V, moved one place through V, each TA writes A rotated. -/
theorem rotatesOfABit : Obligations.RotatesOfABit := by
  intro s
  refine ⟨?rdA, ?rdB, ?ruA, ?ruB, ?ta1, ?ta2, ?ta3, ?ta4, ?ta5, ?ta6, ?ta7⟩
  case rdA =>
    exact (RunsOneByte.of_writeAV (.of_f1 rfl rfl) (exec_rdA s)).imp fun _ ⟨hA, hV⟩ =>
      ⟨hV, hA ▸ rotateDown_moves s.A s.V⟩
  case rdB =>
    exact (RunsOneByte.of_writeBV (.of_f1 rfl rfl) (exec_rdB s)).imp fun _ ⟨hB, hV⟩ =>
      ⟨hV, hB ▸ rotateDown_moves s.B s.V⟩
  case ruA =>
    exact (RunsOneByte.of_writeAV (.of_f1 rfl rfl) (exec_ruA s)).imp fun _ ⟨hA, hV⟩ =>
      ⟨hV, hA ▸ rotateUp_moves s.A s.V⟩
  case ruB =>
    exact (RunsOneByte.of_writeBV (.of_f1 rfl rfl) (exec_ruB s)).imp fun _ ⟨hB, hV⟩ =>
      ⟨hV, hB ▸ rotateUp_moves s.B s.V⟩
  case ta1 => exact .of_rotlA (by decide) (.of_f1 rfl rfl) (exec_ta1 s)
  case ta2 => exact .of_rotlA (by decide) (.of_f1 rfl rfl) (exec_ta2 s)
  case ta3 => exact .of_rotlA (by decide) (.of_f1 rfl rfl) (exec_ta3 s)
  case ta4 => exact .of_rotlA (by decide) (.of_f1 rfl rfl) (exec_ta4 s)
  case ta5 => exact .of_rotlA (by decide) (.of_f1 rfl rfl) (exec_ta5 s)
  case ta6 => exact .of_rotlA (by decide) (.of_f1 rfl rfl) (exec_ta6 s)
  case ta7 => exact .of_rotlA (by decide) (.of_f1 rfl rfl) (exec_ta7 s)

/-- Settles O21: each is a write of V. -/
theorem carryInstructions : Obligations.CarryInstructions := by
  intro s
  refine ⟨?zoV, ?seV, ?neV, ?cpV⟩
  case zoV => exact .of_writeV (.of_f1 rfl rfl) (exec_zoV s)
  case seV => exact .of_writeV (.of_f1 rfl rfl) (exec_seV s)
  case neV => exact .of_writeV (.of_f1 rfl rfl) (exec_neV s)
  case cpV => exact .of_writeV (.of_f1 rfl rfl) (exec_cpV s)

end Sys2Proof.Machine
end

section
/-! Certificate of O28 and O29, the steps of an address register by 1 to 8 and by one with the exchange of A and B (R250 to R261
of spec/45_incdec.md). The 48 forms of O28 are two families, each over an address register and the digit of the mnemonic: first
the families, then what a register is after such a step, then the two shapes of this family, then the instructions. -/

namespace Sys2Proof.Machine

/-! The instructions of O28 by register and digit, and what the model says of them. -/

/-- `IXs`, `IYs`, `IZs` with the digit `d` of the mnemonic (R250 to R252). -/
def PtrReg.stepUp : PtrReg → Fin 8 → Instr
  | .X => ![.ix0, .ix1, .ix2, .ix3, .ix4, .ix5, .ix6, .ix7]
  | .Y => ![.iy0, .iy1, .iy2, .iy3, .iy4, .iy5, .iy6, .iy7]
  | .Z => ![.iz0, .iz1, .iz2, .iz3, .iz4, .iz5, .iz6, .iz7]

/-- `DXs`, `DYs`, `DZs` with the digit `d` of the mnemonic (R253 to R255). -/
def PtrReg.stepDown : PtrReg → Fin 8 → Instr
  | .X => ![.dx0, .dx1, .dx2, .dx3, .dx4, .dx5, .dx6, .dx7]
  | .Y => ![.dy0, .dy1, .dy2, .dy3, .dy4, .dy5, .dy6, .dy7]
  | .Z => ![.dz0, .dz1, .dz2, .dz3, .dz4, .dz5, .dz6, .dz7]

/-- The opcode of `IX0`, `IY0`, `IZ0`: the first of its row of the opcode map. -/
def PtrReg.stepUpRow : PtrReg → Byte
  | .X => 0x08 | .Y => 0x10 | .Z => 0x18

/-- The opcode of `DX0`, `DY0`, `DZ0`: the first of its row of the opcode map. -/
def PtrReg.stepDownRow : PtrReg → Byte
  | .X => 0x28 | .Y => 0x30 | .Z => 0x38

/-- The digit is the column of the opcode map. -/
theorem PtrReg.stepUp_isEncodedAs (r : PtrReg) (d : Fin 8) :
    IsEncodedAs (r.stepUp d) [r.stepUpRow + BitVec.ofNat 8 d] := by
  cases r <;> fin_cases d <;> exact .of_f1 rfl rfl

/-- The digit is the column of the opcode map. -/
theorem PtrReg.stepDown_isEncodedAs (r : PtrReg) (d : Fin 8) :
    IsEncodedAs (r.stepDown d) [r.stepDownRow + BitVec.ofNat 8 d] := by
  cases r <;> fin_cases d <;> exact .of_f1 rfl rfl

theorem exec_stepUp (r : PtrReg) (d : Fin 8) (s : State) :
    exec (r.stepUp d) s = write16 r.reg (s.get16 r.reg + BitVec.ofNat 16 d + 1) s := by
  cases r <;> fin_cases d <;> rfl

theorem exec_stepDown (r : PtrReg) (d : Fin 8) (s : State) :
    exec (r.stepDown d) s = write16 r.reg (s.get16 r.reg - BitVec.ofNat 16 d - 1) s := by
  cases r <;> fin_cases d <;> rfl

/-! A word after a step by `n + 1`. -/

/-- The step up is the exact sum modulo 2^16. -/
theorem toNat_add_ofNat_add_one (a : Word) (n : Nat) :
    (a + BitVec.ofNat 16 n + 1).toNat = (a.toNat + (n + 1)) % 65536 := by
  rw [BitVec.toNat_add, BitVec.toNat_add, BitVec.toNat_ofNat, show (1 : Word).toNat = 1 from rfl]
  omega

/-- The step down is the exact difference modulo 2^16, also where that is negative. -/
theorem toNat_sub_ofNat_sub_one (a : Word) (n : Nat) :
    ((a - BitVec.ofNat 16 n - 1).toNat : Int) = ((a.toNat : Int) - (n + 1 : Nat)) % 65536 := by
  rw [toNat_sub_emod, toNat_sub_emod, BitVec.toNat_ofNat, show (1 : Word).toNat = 1 from rfl]
  omega

/-! The two shapes: a step of an address register, and a step by one with the exchange of A and B. -/

/-- The digit `d` steps the register up by `d + 1`. -/
theorem PtrReg.runs_stepUp (r : PtrReg) (d : Fin 8) (s : State) :
    RunsOneByte (r.stepUp d) (r.stepUpRow + BitVec.ofNat 8 d) 1 r.reg.parts s
      (fun t => (t.get16 r.reg).toNat = ((s.get16 r.reg).toNat + (d.val + 1)) % 65536) :=
  (RunsOneByte.of_write16 (r.stepUp_isEncodedAs d) (exec_stepUp r d s)).imp fun _ hv =>
    hv ▸ toNat_add_ofNat_add_one (s.get16 r.reg) d

/-- The digit `d` steps the register down by `d + 1`. -/
theorem PtrReg.runs_stepDown (r : PtrReg) (d : Fin 8) (s : State) :
    RunsOneByte (r.stepDown d) (r.stepDownRow + BitVec.ofNat 8 d) 1 r.reg.parts s
      (fun t => ((t.get16 r.reg).toNat : Int) = (((s.get16 r.reg).toNat : Int) - (d.val + 1 : Nat)) % 65536) :=
  (RunsOneByte.of_write16 (r.stepDown_isEncodedAs d) (exec_stepDown r d s)).imp fun _ hv =>
    hv ▸ toNat_sub_ofNat_sub_one (s.get16 r.reg) d

/-- An instruction that is a write of an address register and exchanges A and B, all from the old values. -/
theorem RunsOneByte.of_write16swapAB {i : Instr} {op : Byte} {r : PtrReg} {v : Word} {s : State}
    (he : IsEncodedAs i [op]) (h : exec i s = write16swapAB r.reg v s) :
    RunsOneByte i op 1 (.A :: .B :: r.reg.parts) s (fun t => t.get16 r.reg = v ∧ t.A = s.B ∧ t.B = s.A) := by
  obtain ⟨hv, hA, hB, hr, hk⟩ := write16swapAB_next (r := r) (v := v) (s := s) rfl
  exact .of_retired he h ⟨hv, hA, hB⟩ hr hk

/-- A count up of an address register, modulo 2^16, with the exchange of A and B. -/
theorem RunsOneByte.of_incrementSwapAB {i : Instr} {op : Byte} {r : PtrReg} {s : State} (he : IsEncodedAs i [op])
    (h : exec i s = write16swapAB r.reg (s.get16 r.reg + 1) s) :
    RunsOneByte i op 1 (.A :: .B :: r.reg.parts) s
      (fun t => (t.get16 r.reg).toNat = ((s.get16 r.reg).toNat + 1) % 65536 ∧ t.A = s.B ∧ t.B = s.A) :=
  (RunsOneByte.of_write16swapAB he h).imp fun _ ⟨hv, hAB⟩ => ⟨hv ▸ BitVec.toNat_add (s.get16 r.reg) 1, hAB⟩

/-- A count down of an address register, modulo 2^16, with the exchange of A and B. -/
theorem RunsOneByte.of_decrementSwapAB {i : Instr} {op : Byte} {r : PtrReg} {s : State} (he : IsEncodedAs i [op])
    (h : exec i s = write16swapAB r.reg (s.get16 r.reg - 1) s) :
    RunsOneByte i op 1 (.A :: .B :: r.reg.parts) s
      (fun t => ((t.get16 r.reg).toNat : Int) = (((s.get16 r.reg).toNat : Int) - 1) % 65536
        ∧ t.A = s.B ∧ t.B = s.A) :=
  (RunsOneByte.of_write16swapAB he h).imp fun _ ⟨hv, hAB⟩ => ⟨hv ▸ toNat_sub_emod (s.get16 r.reg) 1, hAB⟩

/-! The instructions. -/

theorem exec_ixe (s : State) : exec .ixe s = write16swapAB .X (s.X + 1) s := rfl

theorem exec_iye (s : State) : exec .iye s = write16swapAB .Y (s.Y + 1) s := rfl

theorem exec_ize (s : State) : exec .ize s = write16swapAB .Z (s.Z + 1) s := rfl

theorem exec_dxe (s : State) : exec .dxe s = write16swapAB .X (s.X - 1) s := rfl

theorem exec_dye (s : State) : exec .dye s = write16swapAB .Y (s.Y - 1) s := rfl

theorem exec_dze (s : State) : exec .dze s = write16swapAB .Z (s.Z - 1) s := rfl

/-- Settles O28: each form is the step up or down of its register with its digit. -/
theorem stepsOfAddressRegisters : Obligations.StepsOfAddressRegisters := by
  intro s
  have up (r : PtrReg) (d : Fin 8) := r.runs_stepUp d s
  have down (r : PtrReg) (d : Fin 8) := r.runs_stepDown d s
  exact
    ⟨up .X 0, up .X 1, up .X 2, up .X 3, up .X 4, up .X 5, up .X 6, up .X 7,
      up .Y 0, up .Y 1, up .Y 2, up .Y 3, up .Y 4, up .Y 5, up .Y 6, up .Y 7,
      up .Z 0, up .Z 1, up .Z 2, up .Z 3, up .Z 4, up .Z 5, up .Z 6, up .Z 7,
      down .X 0, down .X 1, down .X 2, down .X 3, down .X 4, down .X 5, down .X 6, down .X 7,
      down .Y 0, down .Y 1, down .Y 2, down .Y 3, down .Y 4, down .Y 5, down .Y 6, down .Y 7,
      down .Z 0, down .Z 1, down .Z 2, down .Z 3, down .Z 4, down .Z 5, down .Z 6, down .Z 7⟩

/-- Settles O29: each is a count by one of its register with the exchange of A and B. -/
theorem stepsWithExchangeOfAAndB : Obligations.StepsWithExchangeOfAAndB := by
  intro s
  refine ⟨?ixe, ?iye, ?ize, ?dxe, ?dye, ?dze⟩
  case ixe => exact .of_incrementSwapAB (r := .X) (.of_f1 rfl rfl) (exec_ixe s)
  case iye => exact .of_incrementSwapAB (r := .Y) (.of_f1 rfl rfl) (exec_iye s)
  case ize => exact .of_incrementSwapAB (r := .Z) (.of_f1 rfl rfl) (exec_ize s)
  case dxe => exact .of_decrementSwapAB (r := .X) (.of_f1 rfl rfl) (exec_dxe s)
  case dye => exact .of_decrementSwapAB (r := .Y) (.of_f1 rfl rfl) (exec_dye s)
  case dze => exact .of_decrementSwapAB (r := .Z) (.of_f1 rfl rfl) (exec_dze s)

end Sys2Proof.Machine
end

section
/-! Certificate of O36 and O40, the jumps to R on a condition that does not test V, and the jump and link (R312, R315 to R320,
R328 of spec/47_control.md). First what is zero when K is, and how a frame is narrowed or widened; then how a jump ends; then
the shape of the jumps to R; then the instructions. -/

namespace Sys2Proof.Machine

/-! The conditions that test K. -/

/-- K is zero when both its halves are (R23). -/
theorem State.K_eq_zero_iff (s : State) : s.K = 0 ↔ s.A = 0 ∧ s.B = 0 := by
  refine ⟨fun h => ⟨?A, ?B⟩, fun ⟨hA, hB⟩ => ?K⟩
  case A => rw [← s.highByte_K, h]; rfl
  case B => rw [← s.lowByte_K, h]; rfl
  case K => rw [State.K, hA, hB]; rfl

/-- The condition KZ, told from A and B together (R319). -/
theorem State.holds_KZ (s : State) : s.holds .KZ = (s.A == 0 && s.B == 0) := by
  rw [State.holds, Bool.eq_iff_iff, Bool.and_eq_true, beq_iff_eq, beq_iff_eq, beq_iff_eq]
  exact s.K_eq_zero_iff

/-- The condition KS is the negation of KZ (R320). -/
theorem State.holds_KS (s : State) : s.holds .KS = (s.A != 0 || s.B != 0) :=
  calc s.holds .KS
    _ = !(s.A == 0 && s.B == 0) := congrArg not s.holds_KZ
    _ = (s.A != 0 || s.B != 0) := Bool.not_and ..

/-! Frames. -/

theorem KeepsBut.refl (written : List Part) (s : State) : KeepsBut written s s := fun p _ => by cases p <;> rfl

/-- A part that is as it was need not be listed. -/
theorem KeepsBut.of_same {p : Part} {written : List Part} {s t : State} (h : KeepsBut (p :: written) s t)
    (hp : p.same s t) : KeepsBut written s t := by
  intro q hq
  by_cases hqp : q = p
  · exact hqp ▸ hp
  · exact h q (List.not_mem_cons_of_ne_of_not_mem hqp hq)

/-- A write of a 16-bit register changes no part but those the register stands for. -/
theorem KeepsBut.set16 {written : List Part} {s u : State} (h : KeepsBut written s u) (r : Reg16) (v : Word)
    (hr : r.parts ⊆ written) : KeepsBut written s (u.set16 r v) := by
  intro p hp
  have unlisted : p ∉ r.parts := fun hpr => hp (hr hpr)
  have hsame := h p hp
  cases r <;> cases p <;> first | exact hsame | exact absurd (by simp [Reg16.parts]) unlisted

/-! How a jump ends. -/

/-- A word is its own residue modulo 2^16 (R28). -/
theorem toNat_emod_65536 (a : Word) : (a.toNat : Int) = (a.toNat : Int) % 65536 :=
  (Int.emod_eq_of_lt (Int.natCast_nonneg _) (Int.ofNat_lt.mpr a.isLt)).symm

/-- An instruction that ends after changes that neither the platform nor the cycle counter saw is retired. -/
theorem State.retire_retired {s u : State} (hp : u.platform = s.platform) (hc : u.cycles = s.cycles) (target : Word)
    (n : Nat) (o : Option Word) : Retired target n o s (u.retire target n o) := by
  simp [Retired, hp, hc]

/-! Jumps to R. -/

theorem jumpR_answers (c : Cond) (s : State) : ∃ t, jumpR c s = .next t := by
  unfold jumpR
  split <;> exact ⟨_, rfl⟩

/-- The address a jump to R on a condition goes to is an integer modulo 2^16 (R28, R291). -/
theorem jumpR_target (taken : Bool) (s : State) :
    ((if taken then s.R else s.P + 1).toNat : Int) = (if taken then (s.R.toNat : Int) else s.P.toNat + 1) % 65536 := by
  cases taken
  case false => exact toNat_add_one_mod s.P
  case true => exact toNat_emod_65536 s.R

/-- An instruction that is a jump to R on a condition that does not test V: no register but P and no flag changes. -/
theorem RunsJumpR.of_jumpR_keepsV {i : Instr} {op : Byte} {c : Cond} {taken : Bool} {s : State} (he : IsEncodedAs i [op])
    (h : exec i s = jumpR c s) (hc : c.testsV = false) (ht : s.holds c = taken) :
    RunsJumpR i op taken [] s (fun _ => True) := by
  subst ht
  obtain ⟨t, hjump⟩ := jumpR_answers c s
  obtain ⟨hr, hV, hk⟩ := jumpR_next hjump
  have hsame : Part.V.same s t := by simpa [Part.same, hc] using hV
  exact ⟨he, Runs.of_retired (h.trans hjump) trivial hr (jumpR_target (s.holds c) s) (hk.of_same hsame)⟩

/-! The instructions. -/

theorem exec_rWY (s : State) : exec .rWY s = jumpR .WY s := rfl

theorem exec_rUZ (s : State) : exec .rUZ s = jumpR .UZ s := rfl

theorem exec_rUS (s : State) : exec .rUS s = jumpR .US s := rfl

theorem exec_rAZ (s : State) : exec .rAZ s = jumpR .AZ s := rfl

theorem exec_rAS (s : State) : exec .rAS s = jumpR .AS s := rfl

theorem exec_rKZ (s : State) : exec .rKZ s = jumpR .KZ s := rfl

theorem exec_rKS (s : State) : exec .rKS s = jumpR .KS s := rfl

/-- `J..` before its end: R, Q and K are written, all from the old values (R328). -/
def State.link (s : State) : State := ((s.set16 .R s.K).set16 .Q (s.P + 1)).set16 .K (s.P + 1)

theorem exec_j (s : State) : exec .j s = .next (s.link.retire s.K 1 none) := rfl

/-- Settles O36: each is a jump to R on a condition that does not test V, KZ and KS told from A and B together. -/
theorem jumpsToR : Obligations.JumpsToR := by
  intro s
  refine ⟨?rWY, ?rUZ, ?rUS, ?rAZ, ?rAS, ?rKZ, ?rKS⟩
  case rWY => exact .of_jumpR_keepsV (.of_f1 rfl rfl) (exec_rWY s) rfl rfl
  case rUZ => exact .of_jumpR_keepsV (.of_f1 rfl rfl) (exec_rUZ s) rfl rfl
  case rUS => exact .of_jumpR_keepsV (.of_f1 rfl rfl) (exec_rUS s) rfl rfl
  case rAZ => exact .of_jumpR_keepsV (.of_f1 rfl rfl) (exec_rAZ s) rfl rfl
  case rAS => exact .of_jumpR_keepsV (.of_f1 rfl rfl) (exec_rAS s) rfl rfl
  case rKZ => exact .of_jumpR_keepsV (.of_f1 rfl rfl) (exec_rKZ s) rfl s.holds_KZ
  case rKS => exact .of_jumpR_keepsV (.of_f1 rfl rfl) (exec_rKS s) rfl s.holds_KS

/-- Settles O40: J.. is the link followed by a jump to the old K, and the link writes R, Q and the halves of K alone. -/
theorem jumpAndLink : Obligations.JumpAndLink := by
  intro s
  have hRetired : Retired s.K 1 none s (s.link.retire s.K 1 none) := State.retire_retired rfl rfl s.K 1 none
  have hFrame : KeepsBut [.R, .Q, .A, .B] s s.link :=
    (((KeepsBut.refl _ s).set16 .R s.K (by decide)).set16 .Q (s.P + 1) (by decide)).set16 .K (s.P + 1) (by decide)
  have hQ : s.link.Q = s.P + 1 := rfl
  have hK : s.link.K = s.P + 1 := State.set16_K_K _ _
  refine ⟨.of_f1 rfl rfl, Runs.of_retired (exec_j s) ⟨rfl, ?Q, ?K⟩ hRetired (toNat_emod_65536 s.K)
    (hFrame.retire s.K 1 none)⟩
  case Q => exact BitVec.toNat_add s.P 1
  case K => exact hK.trans hQ.symm

end Sys2Proof.Machine
end

section
/-! Certificate of O42, the page switches (R330 to R332 of spec/48_paging_io.md). First what the fetch of the following opcode
and a page switch leave unchanged; then the shape of SW.%; then the instructions. -/

namespace Sys2Proof.Machine

/-! Frames. -/

/-- The fetch of the following opcode changes no part: it is a read, and those change another platform's state alone (R55). -/
theorem KeepsBut.fetchNext {written : List Part} {s u : State} (h : KeepsBut written s u) :
    KeepsBut written s u.fetchNext := by
  intro p hp
  have hsame := h p hp
  cases p
  case inputs => exact (Platform.read_inputs ..).trans hsame
  case ioCount => exact (Platform.read_ioCount ..).trans hsame
  case events => exact (Platform.read_events ..).trans hsame
  case output => exact (Platform.read_output ..).trans hsame
  all_goals exact hsame

/-- A page switch changes no part but the record of the signals (R57). -/
theorem KeepsBut.pageSwitch {written : List Part} {s u : State} (h : KeepsBut written s u) (t prev : BusType)
    (hw : .events ∈ written) : KeepsBut written s (u.pageSwitch t prev) := by
  intro p hp
  have hsame := h p hp
  cases p
  case events => exact absurd hw hp
  all_goals exact hsame

/-! The shape of SW.%. -/

/-- An instruction that switches the page of an address register signals once, in the one cycle of its fetch. -/
theorem RunsSignals.of_switchPage {i : Instr} {op : Byte} {r : PtrReg} {s : State} (he : IsEncodedAs i [op])
    (h : exec i s = switchPage r s) :
    RunsSignals i op [(.FE, r.pageType)] [.pageSwitch r.pageType .FE] [.events] s
      (fun t => t.platform.events = s.platform.events ++ [.pageSwitch r.pageType .FE]) := by
  have hEvents : (s.fetchNext.pageSwitch r.pageType .FE).platform.events
      = s.platform.events ++ [.pageSwitch r.pageType .FE] := by simp
  have hMemory : (s.fetchNext.pageSwitch r.pageType .FE).platform.mem = s.platform.mem := by simp
  have hFrame : KeepsBut [.events] s (s.fetchNext.pageSwitch r.pageType .FE) :=
    (KeepsBut.refl _ s).fetchNext.pageSwitch r.pageType .FE (by decide)
  exact .of_retireSignals he h hEvents rfl rfl hMemory hFrame

/-! The instructions. -/

theorem exec_swX (s : State) : exec .swX s = switchPage .X s := rfl

theorem exec_swY (s : State) : exec .swY s = switchPage .Y s := rfl

theorem exec_swZ (s : State) : exec .swZ s = switchPage .Z s := rfl

/-- Settles O42: each SW is the page switch of its address register. -/
theorem pageSwitches : Obligations.PageSwitches := by
  intro s
  refine ⟨?swX, ?swY, ?swZ⟩
  case swX => exact .of_switchPage (r := .X) (.of_f1 rfl rfl) (exec_swX s)
  case swY => exact .of_switchPage (r := .Y) (.of_f1 rfl rfl) (exec_swY s)
  case swZ => exact .of_switchPage (r := .Z) (.of_f1 rfl rfl) (exec_swZ s)

end Sys2Proof.Machine
end

section
/-! Certificate of O1 to O4, O48 and O49, the encoding (R80 to R86 of spec/30_encoding.md) and the instruction a step runs. The
key facts are two tables read in opposite directions: each instruction decodes from its own bytes, and the cell of each opcode
encodes back to that opcode. -/

namespace Sys2Proof.Machine

/-! From the instruction to its bytes and back. -/

/-- The two-byte cell of an opcode gives both directions of the encoding (R80, R84). -/
theorem IsEncodedAs.of_f2 {f : Byte → Instr} {op nn : Byte} (hc : opcodeCell op = .f2 f) (he : encode (f nn) = [op, nn]) :
    IsEncodedAs (f nn) [op, nn] :=
  ⟨he, decode_of_f2 hc nn⟩

/-- The same, with the bytes read off the encoder's table. -/
theorem encode_isEncodedAs_of_f2 {f : Byte → Instr} {op nn : Byte} (he : encodeRaw (f nn) = ⟨op, some nn⟩)
    (hc : opcodeCell op = .f2 f) : IsEncodedAs (f nn) (encode (f nn)) := by
  have hbytes : encode (f nn) = [op, nn] := by rw [encode, he]; rfl
  rw [hbytes]
  exact .of_f2 hc hbytes

/-- Every instruction is read back from its encoding: of format F2 where it has an `nn`, else of F1 (R81, R82). -/
theorem encode_isEncodedAs (i : Instr) : IsEncodedAs i (encode i) := by
  cases i
  case oVZ | oVS | bVZ | bVS | oUZ | oUS | bUZ | bUS | oAZ | oAS | bAZ | bAS | oKZ | oKS | bKZ | bKS | oWY | oRP | bWY | bCN
      | gtr | adr | gta | nol | ikl | dkl | ixl | dxl | iyl | dyl | izl | dzl | ad | lv | av | sv | gt | an | xr | nr =>
    exact encode_isEncodedAs_of_f2 rfl rfl
  all_goals exact .of_f1 rfl rfl

/-- Settles O1: each word is the encoding of its instruction, with what follows it. -/
theorem decodedWordsAreTheInstructions : Obligations.DecodedWordsAreTheInstructions :=
  ⟨(encode_isEncodedAs .anB).2 [], (encode_isEncodedAs (.av 0x7f)).2 [], (encode_isEncodedAs .stmy).2 [0x11],
    (encode_isEncodedAs .adZ).2 [], (encode_isEncodedAs .esY).2 [], (encode_isEncodedAs .tk9).2 [],
    (encode_isEncodedAs .dz5).2 [], (encode_isEncodedAs (.ixl 0x80)).2 [], (encode_isEncodedAs (.nol 0x00)).2 [],
    (encode_isEncodedAs (.bCN 0x03)).2 [], (encode_isEncodedAs .j).2 [], (encode_isEncodedAs .swZ).2 [],
    (encode_isEncodedAs .h).2 [0x00]⟩

/-- Settles O3: every instruction is read back from its encoding, whatever follows. -/
theorem decodeOfEncodeIsTheInstruction : Obligations.DecodeOfEncodeIsTheInstruction :=
  fun i rest => (encode_isEncodedAs i).2 rest

/-! From an opcode to the instruction and back. -/

/-- The cell of the opcode `op` is one of format F1 or of F2, as the opcode's length says (R80), and what it holds encodes to
this opcode. -/
def CellEncodes (op : Byte) : OpcodeCell → Prop
  | .f1 i => opcodeLength op = 1 ∧ encodeRaw i = ⟨op, none⟩
  | .f2 f => opcodeLength op = 2 ∧ ∀ nn, encodeRaw (f nn) = ⟨op, some nn⟩

/-- Every cell of the opcode map encodes to its own opcode (R84, R86). -/
theorem opcodeCell_encodes (op : Byte) : CellEncodes op (opcodeCell op) := by
  obtain ⟨k⟩ := op
  fin_cases k
  all_goals exact ⟨rfl, by intros; rfl⟩

/-- The instruction of an opcode and the byte after it has that opcode. -/
theorem opcode_decodeOp (op nn : Byte) : opcode (decodeOp op nn) = op := by
  have h := opcodeCell_encodes op
  unfold opcode decodeOp
  cases hc : opcodeCell op with
  | f1 i => rw [hc] at h; exact congrArg RawInstr.opcode h.2
  | f2 f => rw [hc] at h; exact congrArg RawInstr.opcode (h.2 nn)

/-- The decoder looks at the two first bytes alone, and reads from them what a step does (R80). -/
theorem decode_two (op nn : Byte) (rest : List Byte) :
    decode (op :: nn :: rest) = .ok (decodeOp op nn, if opcodeLength op = 2 then rest else nn :: rest) := by
  have h := opcodeCell_encodes op
  cases hc : opcodeCell op with
  | f1 i =>
    rw [hc] at h
    rw [decode_of_f1 hc, decodeOp_of_f1 hc, if_neg (by rw [h.1]; decide)]
  | f2 f =>
    rw [hc] at h
    rw [decode_of_f2 hc, decodeOp_of_f2 hc, if_pos h.1]

/-- Of a single byte the decoder reads a one-byte instruction, or says that `nn` is missing. -/
theorem decode_one (op : Byte) :
    decode [op] = if opcodeLength op = 2 then .error (.missingOperand op) else .ok (decodeOp op 0, []) := by
  have h := opcodeCell_encodes op
  cases hc : opcodeCell op with
  | f1 i =>
    rw [hc] at h
    rw [decode_of_f1 hc, decodeOp_of_f1 hc, if_neg (by rw [h.1]; decide)]
  | f2 f =>
    rw [hc] at h
    rw [decode_of_f2_short hc, if_pos h.1]

/-- What a byte string decodes to encodes to its first bytes. -/
theorem encode_of_decode {bytes rest : List Byte} {i : Instr} (h : decode bytes = .ok (i, rest)) :
    encode i ++ rest = bytes := by
  cases bytes with
  | nil => nomatch h
  | cons op tail =>
    have hcell := opcodeCell_encodes op
    cases hc : opcodeCell op with
    | f1 k =>
      rw [hc] at hcell
      rw [decode_of_f1 hc] at h
      cases h
      rw [encode, hcell.2]
      rfl
    | f2 f =>
      rw [hc] at hcell
      cases tail with
      | nil => rw [decode_of_f2_short hc] at h; nomatch h
      | cons nn tail =>
        rw [decode_of_f2 hc] at h
        cases h
        rw [encode, hcell.2 nn]
        rfl

theorem opcodeLength_eq_two_iff (op : Byte) : opcodeLength op = 2 ↔ 0x40 ≤ op.toNat ∧ op.toNat ≤ 0x67 := by
  unfold opcodeLength
  split <;> simp_all

/-- Settles O2: the decoder's two cases are those of the opcode's length. -/
theorem opcodeAloneDecidesLength : Obligations.OpcodeAloneDecidesLength := by
  refine ⟨fun op nn rest => ⟨decodeOp op nn, opcode_decodeOp op nn, ?two⟩, fun op => ?one⟩
  case two => simp only [decode_two, opcodeLength_eq_two_iff]
  case one => simp only [decode_one, opcodeLength_eq_two_iff]

/-- Settles O4: what decodes encodes back, and two bytes always decode. -/
theorem encodeOfDecodeIsTheBytes : Obligations.EncodeOfDecodeIsTheBytes :=
  ⟨fun _ _ _ => encode_of_decode, fun op nn rest => ⟨_, _, decode_two op nn rest⟩⟩

/-! The instruction a step runs. -/

/-- A running CPU executes the instruction of its prefetched opcode and of the byte after it (R34, R402, R407). -/
theorem step_of_executes {s : State} (h : s.executes) : step s = exec s.nextInstr s := by
  obtain ⟨hRunning, hRes⟩ := h
  simp only [step, hRes, hRunning, Bool.false_eq_true, if_false]

/-- What the decoder reads from two bytes is what a step reads from them. -/
theorem decodeOp_of_decode {op nn : Byte} {rest rest' : List Byte} {i : Instr}
    (h : decode (op :: nn :: rest) = .ok (i, rest')) : decodeOp op nn = i := by
  rw [decode_two] at h
  cases h
  rfl

/-- A running CPU whose opcode and following byte decode to `i` executes `i`. -/
theorem step_of_decode {s : State} {i : Instr} {rest rest' : List Byte} (h : s.executes)
    (hd : decode (s.IR :: s.memRead .RP (s.P + 1) :: rest) = .ok (i, rest')) : step s = exec i s := by
  rw [step_of_executes h, State.nextInstr, decodeOp_of_decode hd]

/-- Settles O48: the step decodes the bytes the platform delivers, on the default platform those of memory. -/
theorem stepRunsTheDecodedInstruction : Obligations.StepRunsTheDecodedInstruction := by
  refine ⟨fun s i rest rest' => step_of_decode, fun s i rest rest' hx hDefault hIR hd => ?_⟩
  rw [← hIR, ← State.memRead_default hDefault .RP (s.P + 1)] at hd
  exact step_of_decode hx hd

/-! The placing of a table word. -/

/-- The second byte placed is the one read at P + 1, the memory being canonical before. -/
theorem memRead_withFetchWord {s : State} (h : s.platform.mem.wf = true) (nbits w : Nat) (t : BusType) :
    (s.withFetchWord nbits w).memRead t (s.P + 1) = tableByte nbits w 1 :=
  Memory.get_set_same _ 0 _ _ (Memory.wf_set _ _ _ s.P.isLt h)

/-- The bytes placed are those at P and P + 1 and no other. -/
theorem byteAt_withFetchWord_other (s : State) (nbits w : Nat) {a : Word} (h0 : a ≠ s.P) (h1 : a ≠ s.P + 1) :
    (s.withFetchWord nbits w).byteAt a = s.byteAt a :=
  have ne_of_word {a b : Word} (h : a ≠ b) : a.toNat ≠ b.toNat := fun e => h (BitVec.eq_of_toNat_eq e)
  (Memory.get_set_other _ _ _ _ (ne_of_word h1)).trans (Memory.get_set_other _ _ _ _ (ne_of_word h0))

/-- What a table word decodes to is the instruction of its first two bytes. -/
theorem decodeOp_of_decodeTableWord {nbits w : Nat} {i : Instr} (h : decodeTableWord nbits w = some i) :
    decodeOp (tableByte nbits w 0) (tableByte nbits w 1) = i := by
  rw [decodeTableWord, decode_two] at h
  exact Option.some.inj h

/-- Settles O49: the placed bytes are those the next step decodes, and nothing else but HALT and RES is set. -/
theorem placedWordRunsNext : Obligations.PlacedWordRunsNext := by
  intro s nbits w i hwf hi
  refine ⟨?runs, rfl, rfl, fun a => byteAt_withFetchWord_other s nbits w, fun p hp => ?frame⟩
  case runs =>
    rw [step_of_executes ⟨rfl, rfl⟩, State.nextInstr]
    exact congrArg (exec · _) ((congrArg _ (memRead_withFetchWord hwf nbits w .RP)).trans (decodeOp_of_decodeTableWord hi))
  case frame =>
    cases p
    case halted | res => exact absurd (by decide) hp
    all_goals rfl

end Sys2Proof.Machine
end

section
/-! Certificate of O6 to O12 and O14, arithmetic, logic and copies on A with B, with an immediate and with a memory byte, the
stores, and the subtractions on K with V (R103 to R143 of spec/40_alu8.md and spec/41_alu8_memory.md, R151, R152, R224, R225).
First what a carry and a borrow mean; then the shapes by the length and the data access; then the instructions. -/

namespace Sys2Proof.Machine

/-! Sums and differences of bytes. -/

/-- What A and V hold after an addition with carry is the exact sum (R9). -/
theorem toNat_of_addCarry {t : State} {a b : Byte} {c : Bool} (h : (t.A, t.V) = addCarry a b c) :
    t.A.toNat + 256 * t.V.toNat = a.toNat + b.toNat + c.toNat := by
  have hsum := addCarry_sum a b c
  rwa [← h] at hsum

/-- What A holds after a subtraction with borrow, less the weight of V, is the exact difference (R9, D5). -/
theorem toNat_of_subBorrow {t : State} {a b : Byte} {c : Bool} (h : (t.A, t.V) = subBorrow a b c) :
    (t.A.toNat : Int) - 256 * t.V.toNat = a.toNat - b.toNat - c.toNat := by
  have hdifference := subBorrow_difference a b c
  rwa [← h] at hdifference

/-! Two-byte instructions. -/

/-- `P <- P + 2` in 16 bits is the exact sum modulo 2^16 (R27, R28). -/
theorem toNat_add_two_mod (p : Word) : ((p + 2).toNat : Int) = ((p.toNat : Int) + 2) % 65536 := by
  simp [BitVec.toNat_add]

/-- A two-byte instruction that answers a state retired at P + 2 runs as the statements say it. -/
theorem RunsTwoBytes.of_retired {i : Instr} {op nn : Byte} {n : Nat} {written : List Part} {s t : State}
    {post : State → Prop} (he : IsEncodedAs i [op, nn]) (h : exec i s = .next t) (hp : post t)
    (hr : Retired (s.P + 2) n (some (s.P + 1)) s t) (hk : KeepsBut written s t) :
    RunsTwoBytes i op nn n written s post :=
  ⟨he, Runs.of_retired h hp hr (toNat_add_two_mod s.P) hk⟩

/-- What is said of the next state may be replaced by what follows from it. -/
theorem RunsTwoBytes.imp {i : Instr} {op nn : Byte} {n : Nat} {written : List Part} {s : State}
    {post post' : State → Prop} (h : RunsTwoBytes i op nn n written s post) (hp : ∀ t, post t → post' t) :
    RunsTwoBytes i op nn n written s post' := by
  obtain ⟨he, t, hx, ht, hrest⟩ := h
  exact ⟨he, t, hx, hp t ht, hrest⟩

/-! Operations on A with B, with an immediate, and with a memory byte. -/

/-- An instruction that is an operation on A with B and with V. -/
theorem RunsOneByte.of_alu8V_B {i : Instr} {op : Byte} {f : Byte → Byte → Bool → Byte × Bool} {s : State}
    (he : IsEncodedAs i [op]) (h : exec i s = alu8V f .B s) :
    RunsOneByte i op 1 [.A, .V] s (fun t => (t.A, t.V) = f s.A s.B s.V) := by
  obtain ⟨hAV, hr, hk⟩ := alu8V_next (f := f) (src := .B) (s := s) rfl
  exact .of_retired he h hAV hr hk

/-- An instruction that is an operation on A with an immediate and leaves V alone. -/
theorem RunsTwoBytes.of_alu8_imm {i : Instr} {op nn : Byte} {f : Byte → Byte → Byte} {s : State}
    (he : IsEncodedAs i [op, nn]) (h : exec i s = alu8 f (.imm nn) s) :
    RunsTwoBytes i op nn 2 [.A] s (fun t => t.A = f s.A nn) := by
  obtain ⟨hA, hr, hk⟩ := alu8_next (f := f) (src := .imm nn) (s := s) rfl
  exact .of_retired he h hA hr hk

/-- An instruction that is an operation on A with an immediate and with V. -/
theorem RunsTwoBytes.of_alu8V_imm {i : Instr} {op nn : Byte} {f : Byte → Byte → Bool → Byte × Bool} {s : State}
    (he : IsEncodedAs i [op, nn]) (h : exec i s = alu8V f (.imm nn) s) :
    RunsTwoBytes i op nn 2 [.A, .V] s (fun t => (t.A, t.V) = f s.A nn s.V) := by
  obtain ⟨hAV, hr, hk⟩ := alu8V_next (f := f) (src := .imm nn) (s := s) rfl
  exact .of_retired he h hAV hr hk

/-- A write of A does not move an address register. -/
theorem State.get16_ptr_setA (s : State) (v : Byte) (r : PtrReg) : (s.setA v).get16 r.reg = s.get16 r.reg := by
  cases r <;> rfl

/-- An instruction that is an operation on A with a memory byte and leaves V alone. -/
theorem RunsLoad.of_alu8_mem {i : Instr} {op : Byte} {r : PtrReg} {f : Byte → Byte → Byte} {s : State}
    (he : IsEncodedAs i [op]) (h : exec i s = alu8 f (.mem r) s) :
    RunsLoad i op r.readType (s.get16 r.reg) [.A] s (fun m t => t.A = f s.A m) := by
  obtain ⟨hA, -, hk⟩ := alu8_next (f := f) (src := .mem r) (s := s) rfl
  exact .of_advanceRead he h ⟨rfl, rfl, s.get16_ptr_setA _ r, rfl⟩ hA hk

/-- An instruction that is an operation on A with a memory byte and with V. -/
theorem RunsLoad.of_alu8V_mem {i : Instr} {op : Byte} {r : PtrReg} {f : Byte → Byte → Bool → Byte × Bool} {s : State}
    (he : IsEncodedAs i [op]) (h : exec i s = alu8V f (.mem r) s) :
    RunsLoad i op r.readType (s.get16 r.reg) [.A, .V] s (fun m t => (t.A, t.V) = f s.A m s.V) := by
  obtain ⟨hAV, -, hk⟩ := alu8V_next (f := f) (src := .mem r) (s := s) rfl
  exact .of_advanceRead he h ⟨rfl, rfl, s.get16_ptr_setA _ r, rfl⟩ hAV hk

/-- What is said of the byte read and the next state may be replaced by what follows from it. -/
theorem RunsLoad.imp {i : Instr} {op : Byte} {type : BusType} {addr : Word} {written : List Part} {s : State}
    {post post' : Byte → State → Prop} (h : RunsLoad i op type addr written s post)
    (hp : ∀ m t, post m t → post' m t) : RunsLoad i op type addr written s post' := by
  obtain ⟨he, m, t, hx, ht, hrest⟩ := h
  exact ⟨he, m, t, hx, hp m t ht, hrest⟩

/-! Stores. -/

/-- The opcode fetched with a store to the byte it is fetched from is the one FETCH_ORDER says (R62, D13). -/
theorem Platform.writeAndFetch_race {pi : Platform} (h : pi.external = none) (hwf : pi.mem.wf = true) (t : BusType)
    (a : Word) (v : Byte) : (pi.writeAndFetch t a v a).1 =
      match Config.fetchOrder with | .fetchFirst => pi.mem.get a.toNat | .dataFirst => v := by
  have hw : (pi.write t a v).external = none := by simp only [Platform.write, h]
  simp only [Platform.writeAndFetch, inFetchOrder_eq]
  cases Config.fetchOrder
  case fetchFirst => simp only [Platform.read_default h]
  case dataFirst =>
    rw [Platform.read_default hw, Platform.write_default h]
    exact Memory.get_set_same _ 0 _ _ hwf

/-- A write with its fetch leaves every other byte of memory, whatever the platform. -/
theorem Platform.writeAndFetch_get_other (pi : Platform) (t : BusType) (a b target : Word) (v : Byte) (h : b ≠ a) :
    (pi.writeAndFetch t a v target).2.mem.get b.toNat = pi.mem.get b.toNat := by
  refine inFetchOrder_ind (P := fun x : Byte × Platform => x.2.mem.get b.toNat = pi.mem.get b.toNat) ?_ ?_
  · simpa using Platform.write_get_other (pi.read .FE target).2 t a b v h
  · simpa using Platform.write_get_other pi t a b v h

/-- An instruction that stores A through the address register `r`. -/
theorem RunsStore.of_storeA {i : Instr} {op : Byte} {r : PtrReg} {s : State} (he : IsEncodedAs i [op])
    (h : exec i s = storeA r s) : RunsStore i op r.writeType (s.get16 r.reg) s.A s := by
  obtain ⟨t, ht⟩ : ∃ t, storeA r s = .next t := ⟨_, rfl⟩
  obtain ⟨hP, hPlatform, hCycles, hBus, hk⟩ := storeA_next ht
  have hMem : t.platform = _ := congrArg Prod.snd hPlatform
  have hIR : t.IR = _ := congrArg Prod.fst hPlatform
  refine ⟨he, t, h.trans ht, ⟨?target, hCycles, hP ▸ hBus⟩, hP ▸ hPlatform, hk, fun a ha => ?other,
    fun hd hwf => ⟨?stored, ?opcode⟩⟩
  case target => rw [hP]; exact toNat_add_one_mod s.P
  case other => rw [State.byteAt, hMem]; exact Platform.writeAndFetch_get_other _ _ _ _ _ _ ha
  case stored =>
    rw [State.byteAt, hMem, Platform.writeAndFetch_default hd]
    exact Memory.get_set_same _ 0 _ _ hwf
  case opcode =>
    rw [hIR]
    split
    next hrace => rw [hrace]; exact Platform.writeAndFetch_race hd hwf _ _ _
    next hne => exact Platform.writeAndFetch_opcode hd _ _ _ _ (Ne.symm hne)

/-! The instructions. -/

theorem exec_avB (s : State) : exec .avB s = alu8V addCarry .B s := rfl

theorem exec_svB (s : State) : exec .svB s = alu8V subBorrow .B s := rfl

theorem exec_lvB (s : State) : exec .lvB s = alu8V (fun a m c => subBorrow m a c) .B s := rfl

theorem exec_av (nn : Byte) (s : State) : exec (.av nn) s = alu8V addCarry (.imm nn) s := rfl

theorem exec_sv (nn : Byte) (s : State) : exec (.sv nn) s = alu8V subBorrow (.imm nn) s := rfl

theorem exec_lv (nn : Byte) (s : State) : exec (.lv nn) s = alu8V (fun a m c => subBorrow m a c) (.imm nn) s := rfl

theorem exec_an (nn : Byte) (s : State) : exec (.an nn) s = alu8 (· &&& ·) (.imm nn) s := rfl

theorem exec_nr (nn : Byte) (s : State) : exec (.nr nn) s = alu8 (fun a m => ~~~(a ||| m)) (.imm nn) s := rfl

theorem exec_xr (nn : Byte) (s : State) : exec (.xr nn) s = alu8 (· ^^^ ·) (.imm nn) s := rfl

theorem exec_gt (nn : Byte) (s : State) : exec (.gt nn) s = alu8 (fun _ m => m) (.imm nn) s := rfl

theorem exec_ad (nn : Byte) (s : State) : exec (.ad nn) s = alu8 (· + ·) (.imm nn) s := rfl

theorem exec_ivA (s : State) : exec .ivA s = writeAV (addCarry s.A 0 s.V) s := rfl

theorem exec_dvA (s : State) : exec .dvA s = writeAV (subBorrow s.A 0 s.V) s := rfl

theorem exec_svS (s : State) : exec .svS s = writeKV (subBorrow s.K s.S s.V) s := rfl

theorem exec_lvS (s : State) : exec .lvS s = writeKV (subBorrow s.S s.K s.V) s := rfl

theorem exec_anmx (s : State) : exec .anmx s = alu8 (· &&& ·) (.mem .X) s := rfl

theorem exec_anmy (s : State) : exec .anmy s = alu8 (· &&& ·) (.mem .Y) s := rfl

theorem exec_anmz (s : State) : exec .anmz s = alu8 (· &&& ·) (.mem .Z) s := rfl

theorem exec_nrmx (s : State) : exec .nrmx s = alu8 (fun a m => ~~~(a ||| m)) (.mem .X) s := rfl

theorem exec_nrmy (s : State) : exec .nrmy s = alu8 (fun a m => ~~~(a ||| m)) (.mem .Y) s := rfl

theorem exec_nrmz (s : State) : exec .nrmz s = alu8 (fun a m => ~~~(a ||| m)) (.mem .Z) s := rfl

theorem exec_xrmx (s : State) : exec .xrmx s = alu8 (· ^^^ ·) (.mem .X) s := rfl

theorem exec_xrmy (s : State) : exec .xrmy s = alu8 (· ^^^ ·) (.mem .Y) s := rfl

theorem exec_xrmz (s : State) : exec .xrmz s = alu8 (· ^^^ ·) (.mem .Z) s := rfl

theorem exec_gtmx (s : State) : exec .gtmx s = alu8 (fun _ m => m) (.mem .X) s := rfl

theorem exec_gtmy (s : State) : exec .gtmy s = alu8 (fun _ m => m) (.mem .Y) s := rfl

theorem exec_gtmz (s : State) : exec .gtmz s = alu8 (fun _ m => m) (.mem .Z) s := rfl

theorem exec_avmx (s : State) : exec .avmx s = alu8V addCarry (.mem .X) s := rfl

theorem exec_avmy (s : State) : exec .avmy s = alu8V addCarry (.mem .Y) s := rfl

theorem exec_avmz (s : State) : exec .avmz s = alu8V addCarry (.mem .Z) s := rfl

theorem exec_svmx (s : State) : exec .svmx s = alu8V subBorrow (.mem .X) s := rfl

theorem exec_svmy (s : State) : exec .svmy s = alu8V subBorrow (.mem .Y) s := rfl

theorem exec_svmz (s : State) : exec .svmz s = alu8V subBorrow (.mem .Z) s := rfl

theorem exec_lvmx (s : State) : exec .lvmx s = alu8V (fun a m c => subBorrow m a c) (.mem .X) s := rfl

theorem exec_lvmy (s : State) : exec .lvmy s = alu8V (fun a m c => subBorrow m a c) (.mem .Y) s := rfl

theorem exec_lvmz (s : State) : exec .lvmz s = alu8V (fun a m c => subBorrow m a c) (.mem .Z) s := rfl

theorem exec_stmx (s : State) : exec .stmx s = storeA .X s := rfl

theorem exec_stmy (s : State) : exec .stmy s = storeA .Y s := rfl

theorem exec_stmz (s : State) : exec .stmz s = storeA .Z s := rfl

/-- Settles O6: each is an addition with carry of its operand, for IV.A of zero. -/
theorem additionWithCarry8 : Obligations.AdditionWithCarry8 := by
  intro s nn
  refine ⟨?avB, ?av, ?ivA⟩
  case avB => exact (RunsOneByte.of_alu8V_B (.of_f1 rfl rfl) (exec_avB s)).imp fun _ => toNat_of_addCarry
  case av => exact (RunsTwoBytes.of_alu8V_imm (.of_f2 rfl rfl) (exec_av nn s)).imp fun _ => toNat_of_addCarry
  case ivA => exact (RunsOneByte.of_writeAV (.of_f1 rfl rfl) (exec_ivA s)).imp fun _ ⟨hA, hV⟩ =>
    toNat_of_addCarry (Prod.ext hA hV)

/-- Settles O7: each is a subtraction with borrow, in one order or the other, for DV.A of zero. -/
theorem subtractionWithBorrow8 : Obligations.SubtractionWithBorrow8 := by
  intro s nn
  refine ⟨?svB, ?lvB, ?sv, ?lv, ?dvA⟩
  case svB => exact (RunsOneByte.of_alu8V_B (.of_f1 rfl rfl) (exec_svB s)).imp fun _ => toNat_of_subBorrow
  case lvB => exact (RunsOneByte.of_alu8V_B (.of_f1 rfl rfl) (exec_lvB s)).imp fun _ => toNat_of_subBorrow
  case sv => exact (RunsTwoBytes.of_alu8V_imm (.of_f2 rfl rfl) (exec_sv nn s)).imp fun _ => toNat_of_subBorrow
  case lv => exact (RunsTwoBytes.of_alu8V_imm (.of_f2 rfl rfl) (exec_lv nn s)).imp fun _ => toNat_of_subBorrow
  case dvA =>
    refine (RunsOneByte.of_writeAV (.of_f1 rfl rfl) (exec_dvA s)).imp fun _ ⟨hA, hV⟩ => ?_
    simpa using toNat_of_subBorrow (Prod.ext hA hV)

/-- Settles O8: each is an operation on A with the immediate. -/
theorem logicCopyAndAddWithImmediate : Obligations.LogicCopyAndAddWithImmediate := by
  intro s nn
  refine ⟨?an, ?nr, ?xr, ?gt, ?ad⟩
  case an => exact .of_alu8_imm (.of_f2 rfl rfl) (exec_an nn s)
  case nr => exact .of_alu8_imm (.of_f2 rfl rfl) (exec_nr nn s)
  case xr => exact .of_alu8_imm (.of_f2 rfl rfl) (exec_xr nn s)
  case gt => exact .of_alu8_imm (.of_f2 rfl rfl) (exec_gt nn s)
  case ad => exact (RunsTwoBytes.of_alu8_imm (.of_f2 rfl rfl) (exec_ad nn s)).imp fun _ hA => hA ▸ BitVec.toNat_add s.A nn

/-- Settles O9: each is an operation on A with the memory byte. -/
theorem logicAndLoadWithMemory : Obligations.LogicAndLoadWithMemory := by
  intro s
  refine ⟨?anmx, ?anmy, ?anmz, ?nrmx, ?nrmy, ?nrmz, ?xrmx, ?xrmy, ?xrmz, ?gtmx, ?gtmy, ?gtmz⟩
  case anmx => exact .of_alu8_mem (r := .X) (.of_f1 rfl rfl) (exec_anmx s)
  case anmy => exact .of_alu8_mem (r := .Y) (.of_f1 rfl rfl) (exec_anmy s)
  case anmz => exact .of_alu8_mem (r := .Z) (.of_f1 rfl rfl) (exec_anmz s)
  case nrmx => exact .of_alu8_mem (r := .X) (.of_f1 rfl rfl) (exec_nrmx s)
  case nrmy => exact .of_alu8_mem (r := .Y) (.of_f1 rfl rfl) (exec_nrmy s)
  case nrmz => exact .of_alu8_mem (r := .Z) (.of_f1 rfl rfl) (exec_nrmz s)
  case xrmx => exact .of_alu8_mem (r := .X) (.of_f1 rfl rfl) (exec_xrmx s)
  case xrmy => exact .of_alu8_mem (r := .Y) (.of_f1 rfl rfl) (exec_xrmy s)
  case xrmz => exact .of_alu8_mem (r := .Z) (.of_f1 rfl rfl) (exec_xrmz s)
  case gtmx => exact .of_alu8_mem (r := .X) (.of_f1 rfl rfl) (exec_gtmx s)
  case gtmy => exact .of_alu8_mem (r := .Y) (.of_f1 rfl rfl) (exec_gtmy s)
  case gtmz => exact .of_alu8_mem (r := .Z) (.of_f1 rfl rfl) (exec_gtmz s)

/-- Settles O10: each is an addition with carry of the memory byte. -/
theorem additionWithCarryFromMemory : Obligations.AdditionWithCarryFromMemory := by
  intro s
  refine ⟨?avmx, ?avmy, ?avmz⟩
  case avmx => exact (RunsLoad.of_alu8V_mem (r := .X) (.of_f1 rfl rfl) (exec_avmx s)).imp fun _ _ => toNat_of_addCarry
  case avmy => exact (RunsLoad.of_alu8V_mem (r := .Y) (.of_f1 rfl rfl) (exec_avmy s)).imp fun _ _ => toNat_of_addCarry
  case avmz => exact (RunsLoad.of_alu8V_mem (r := .Z) (.of_f1 rfl rfl) (exec_avmz s)).imp fun _ _ => toNat_of_addCarry

/-- Settles O11: each is a subtraction with borrow of the memory byte, or from it. -/
theorem subtractionWithBorrowFromMemory : Obligations.SubtractionWithBorrowFromMemory := by
  intro s
  refine ⟨?svmx, ?svmy, ?svmz, ?lvmx, ?lvmy, ?lvmz⟩
  case svmx => exact (RunsLoad.of_alu8V_mem (r := .X) (.of_f1 rfl rfl) (exec_svmx s)).imp fun _ _ => toNat_of_subBorrow
  case svmy => exact (RunsLoad.of_alu8V_mem (r := .Y) (.of_f1 rfl rfl) (exec_svmy s)).imp fun _ _ => toNat_of_subBorrow
  case svmz => exact (RunsLoad.of_alu8V_mem (r := .Z) (.of_f1 rfl rfl) (exec_svmz s)).imp fun _ _ => toNat_of_subBorrow
  case lvmx => exact (RunsLoad.of_alu8V_mem (r := .X) (.of_f1 rfl rfl) (exec_lvmx s)).imp fun _ _ => toNat_of_subBorrow
  case lvmy => exact (RunsLoad.of_alu8V_mem (r := .Y) (.of_f1 rfl rfl) (exec_lvmy s)).imp fun _ _ => toNat_of_subBorrow
  case lvmz => exact (RunsLoad.of_alu8V_mem (r := .Z) (.of_f1 rfl rfl) (exec_lvmz s)).imp fun _ _ => toNat_of_subBorrow

/-- Settles O12: each is the store of A through its address register. -/
theorem storeWritesOneByte : Obligations.StoreWritesOneByte := by
  intro s
  refine ⟨?stmx, ?stmy, ?stmz⟩
  case stmx => exact .of_storeA (r := .X) (.of_f1 rfl rfl) (exec_stmx s)
  case stmy => exact .of_storeA (r := .Y) (.of_f1 rfl rfl) (exec_stmy s)
  case stmz => exact .of_storeA (r := .Z) (.of_f1 rfl rfl) (exec_stmz s)

/-- A subtraction with borrow into K and V: K less the weight of V is the exact difference (R9, D5). -/
theorem RunsOneByte.of_subBorrowKV {i : Instr} {op : Byte} {a b : Word} {c : Bool} {s : State} (he : IsEncodedAs i [op])
    (h : exec i s = writeKV (subBorrow a b c) s) :
    RunsOneByte i op 1 [.A, .B, .V] s
      (fun t => (t.K.toNat : Int) - 65536 * t.V.toNat = a.toNat - b.toNat - c.toNat) := by
  refine (RunsOneByte.of_writeKV he h).imp fun t ⟨hK, hV⟩ => ?_
  rw [hK, hV]
  exact subBorrow_difference a b c

/-- Settles O14: each is a subtraction with borrow into K and V, in one order or the other. -/
theorem subtractionWithBorrow16 : Obligations.SubtractionWithBorrow16 := by
  intro s
  refine ⟨?svS, ?lvS⟩
  case svS => exact .of_subBorrowKV (.of_f1 rfl rfl) (exec_svS s)
  case lvS => exact .of_subBorrowKV (.of_f1 rfl rfl) (exec_lvS s)

end Sys2Proof.Machine
end

section
/-! Certificate of O23, O27 and O30 to O33, complements, rotates of K, long steps, address constants, no-operations and the link
registers (R218 to R220, R241 of spec/44_flags_unary.md, R262 to R269 of spec/45_incdec.md, R280 to R287 of
spec/46_addr_nop_link.md, R292). First the bits and sums of words; then the shapes; then the instructions. -/

namespace Sys2Proof.Machine

/-! Bits and sums. -/

/-- The complement inverts every bit of a byte. -/
theorem getLsbD_not_byte (v : Byte) (k : Nat) (hk : k < 8) : (~~~v).getLsbD k = !v.getLsbD k := by
  simp [hk]

/-- The halves of the complement are the complements of the halves. -/
theorem highByte_not (v : Word) : highByte (~~~v) = ~~~highByte v := by
  apply BitVec.eq_of_getLsbD_eq
  intro k hk
  have hk16 : 8 + k < 16 := by omega
  simp [highByte, hk, hk16]

theorem lowByte_not (v : Word) : lowByte (~~~v) = ~~~lowByte v := by
  apply BitVec.eq_of_getLsbD_eq
  intro k hk
  have hk16 : k < 16 := by omega
  simp [lowByte, hk, hk16]

/-- A step up by `nn + 1`, `nn` unsigned, is the exact sum modulo 2^16 (D7). -/
theorem toNat_add_zext16_add_one (a : Word) (nn : Byte) :
    (a + zext16 nn + 1).toNat = (a.toNat + nn.toNat + 1) % 65536 := by
  rw [BitVec.toNat_add, BitVec.toNat_add, zext16_toNat, show (1 : Word).toNat = 1 from rfl]
  omega

/-- A step down by `nn + 1`, `nn` unsigned, is the exact difference modulo 2^16 (D7). -/
theorem toNat_sub_zext16_sub_one (a : Word) (nn : Byte) :
    ((a - zext16 nn - 1).toNat : Int) = ((a.toNat : Int) - nn.toNat - 1) % 65536 := by
  rw [toNat_sub_emod, toNat_sub_emod, zext16_toNat, show (1 : Word).toNat = 1 from rfl]
  omega

/-- The target of a forward branch is the exact sum modulo 2^16 (R28, R291). -/
theorem State.forward_toNat (s : State) (nn : Byte) : (s.forward nn).toNat = (s.P.toNat + nn.toNat + 3) % 65536 := by
  rw [State.forward, BitVec.toNat_add, BitVec.toNat_add, zext16_toNat, show (3 : Word).toNat = 3 from rfl]
  omega

/-! The shapes. -/

/-- A write of K rotated by `n` places: bit k goes to bit k + n modulo 16 (R241, D26). -/
theorem RunsOneByte.of_rotlK {i : Instr} {op : Byte} {n : Nat} {s : State} (hn : n < 16) (he : IsEncodedAs i [op])
    (h : exec i s = write16 .K (rotl s.K n) s) :
    RunsOneByte i op 1 [.A, .B] s (fun t => ∀ k : Nat, k < 16 → t.K.getLsbD ((k + n) % 16) = s.K.getLsbD k) :=
  (RunsOneByte.of_write16 he h).imp fun t (hK : t.K = rotl s.K n) k hk => hK ▸ rotl_bits s.K n k hk hn

/-- A two-byte instruction that is a write of one 16-bit register. -/
theorem RunsTwoBytes.of_write16imm {i : Instr} {op nn : Byte} {r : Reg16} {v : Word} {s : State}
    (he : IsEncodedAs i [op, nn]) (h : exec i s = write16imm r v s) :
    RunsTwoBytes i op nn 2 r.parts s (fun t => t.get16 r = v) := by
  obtain ⟨hv, hr, hk⟩ := write16imm_next (r := r) (v := v) (s := s) rfl
  exact .of_retired he h hv hr hk

/-- A step up of a 16-bit register by `nn + 1`. -/
theorem RunsTwoBytes.of_longStepUp {i : Instr} {op nn : Byte} {r : Reg16} {s : State} (he : IsEncodedAs i [op, nn])
    (h : exec i s = write16imm r (s.get16 r + zext16 nn + 1) s) :
    RunsTwoBytes i op nn 2 r.parts s (fun t => (t.get16 r).toNat = ((s.get16 r).toNat + nn.toNat + 1) % 65536) :=
  (RunsTwoBytes.of_write16imm he h).imp fun _ hv => hv ▸ toNat_add_zext16_add_one (s.get16 r) nn

/-- A step down of a 16-bit register by `nn + 1`. -/
theorem RunsTwoBytes.of_longStepDown {i : Instr} {op nn : Byte} {r : Reg16} {s : State} (he : IsEncodedAs i [op, nn])
    (h : exec i s = write16imm r (s.get16 r - zext16 nn - 1) s) :
    RunsTwoBytes i op nn 2 r.parts s
      (fun t => ((t.get16 r).toNat : Int) = (((s.get16 r).toNat : Int) - nn.toNat - 1) % 65536) :=
  (RunsTwoBytes.of_write16imm he h).imp fun _ hv => hv ▸ toNat_sub_zext16_sub_one (s.get16 r) nn

/-- A one-byte instruction that changes nothing but P. -/
theorem RunsOneByte.of_idle1 {i : Instr} {op : Byte} {n : Nat} {s : State} (he : IsEncodedAs i [op])
    (h : exec i s = idle1 n s) : RunsOneByte i op n [] s (fun _ => True) := by
  obtain ⟨hr, hk⟩ := idle1_next (n := n) (s := s) rfl
  exact .of_retired he h trivial hr hk

/-- A two-byte instruction that changes nothing but P. -/
theorem RunsTwoBytes.of_idle2 {i : Instr} {op nn : Byte} {n : Nat} {s : State} (he : IsEncodedAs i [op, nn])
    (h : exec i s = idle2 n s) : RunsTwoBytes i op nn n [] s (fun _ => True) := by
  obtain ⟨hr, hk⟩ := idle2_next (n := n) (s := s) rfl
  exact .of_retired he h trivial hr hk

/-! The instructions. -/

theorem exec_neA (s : State) : exec .neA s = writeA (~~~s.A) s := rfl

theorem exec_neB (s : State) : exec .neB s = writeB (~~~s.B) s := rfl

theorem exec_neK (s : State) : exec .neK s = write16 .K (~~~s.K) s := rfl

/-- `TKs` by the digit of the mnemonic, the places less one (R241). -/
def rotateKInstr : Fin 15 → Instr :=
  ![.tk1, .tk2, .tk3, .tk4, .tk5, .tk6, .tk7, .tk8, .tk9, .tka, .tkb, .tkc, .tkd, .tke, .tkf]

/-- The places are the column of the opcode map, from 0x80 on. -/
theorem rotateKInstr_isEncodedAs (d : Fin 15) : IsEncodedAs (rotateKInstr d) [0x80 + BitVec.ofNat 8 (d + 1)] := by
  fin_cases d <;> exact .of_f1 rfl rfl

theorem exec_rotateKInstr (d : Fin 15) (s : State) :
    exec (rotateKInstr d) s = write16 .K (rotl s.K (d + 1)) s := by
  fin_cases d <;> rfl

theorem exec_ikl (nn : Byte) (s : State) : exec (.ikl nn) s = write16imm .K (s.K + zext16 nn + 1) s := rfl

theorem exec_ixl (nn : Byte) (s : State) : exec (.ixl nn) s = write16imm .X (s.X + zext16 nn + 1) s := rfl

theorem exec_iyl (nn : Byte) (s : State) : exec (.iyl nn) s = write16imm .Y (s.Y + zext16 nn + 1) s := rfl

theorem exec_izl (nn : Byte) (s : State) : exec (.izl nn) s = write16imm .Z (s.Z + zext16 nn + 1) s := rfl

theorem exec_dkl (nn : Byte) (s : State) : exec (.dkl nn) s = write16imm .K (s.K - zext16 nn - 1) s := rfl

theorem exec_dxl (nn : Byte) (s : State) : exec (.dxl nn) s = write16imm .X (s.X - zext16 nn - 1) s := rfl

theorem exec_dyl (nn : Byte) (s : State) : exec (.dyl nn) s = write16imm .Y (s.Y - zext16 nn - 1) s := rfl

theorem exec_dzl (nn : Byte) (s : State) : exec (.dzl nn) s = write16imm .Z (s.Z - zext16 nn - 1) s := rfl

theorem exec_gta (nn : Byte) (s : State) : exec (.gta nn) s = write16imm .K (zext16 nn) s := rfl

theorem exec_gtr (nn : Byte) (s : State) : exec (.gtr nn) s = write16imm .K (s.forward nn) s := rfl

theorem exec_adr (nn : Byte) (s : State) : exec (.adr nn) s = write16imm .K (s.K + s.P + zext16 nn + 3) s := rfl

theorem exec_nol_zero (s : State) : exec (.nol 0) s = write16imm .K s.R s := rfl

theorem exec_nol_of_ne_zero {nn : Byte} (h : nn ≠ 0) (s : State) : exec (.nol nn) s = idle2 (2 + nn.toNat) s := if_neg h

theorem exec_gtQ (s : State) : exec .gtQ s = write16 .K s.Q s := rfl

theorem exec_sRP (s : State) : exec .sRP s = write16 .R (s.P + 1) s := rfl

theorem exec_oRP (nn : Byte) (s : State) :
    exec (.oRP nn) s = .next ((s.set16 .R (s.P + 2)).retire (s.forward nn) 3 (some (s.P + 1))) := rfl

theorem exec_no1 (s : State) : exec .no1 s = idle1 1 s := rfl

theorem exec_no2 (s : State) : exec .no2 s = idle1 2 s := rfl

/-- Settles O23: each is a write of the complement, for NE.K read off the halves of K. -/
theorem complements : Obligations.Complements := by
  intro s
  refine ⟨?neA, ?neB, ?neK⟩
  case neA =>
    exact (RunsOneByte.of_writeA (.of_f1 rfl rfl) (exec_neA s)).imp fun _ hA k hk => hA ▸ getLsbD_not_byte s.A k hk
  case neB =>
    exact (RunsOneByte.of_writeB (.of_f1 rfl rfl) (exec_neB s)).imp fun _ hB k hk => hB ▸ getLsbD_not_byte s.B k hk
  case neK =>
    refine (RunsOneByte.of_writeK_halves (.of_f1 rfl rfl) (exec_neK s)).imp fun t ⟨hA, hB⟩ k hk => ⟨?A, ?B⟩
    case A => rw [hA, highByte_not, s.highByte_K, getLsbD_not_byte s.A k hk]
    case B => rw [hB, lowByte_not, s.lowByte_K, getLsbD_not_byte s.B k hk]

/-- Settles O27: each is the write of K rotated by its places. -/
theorem rotatesOfK : Obligations.RotatesOfK := by
  intro s
  have tk (d : Fin 15) := RunsOneByte.of_rotlK (Nat.succ_lt_succ d.isLt) (rotateKInstr_isEncodedAs d)
    (exec_rotateKInstr d s)
  exact ⟨tk 0, tk 1, tk 2, tk 3, tk 4, tk 5, tk 6, tk 7, tk 8, tk 9, tk 10, tk 11, tk 12, tk 13, tk 14⟩

/-- Settles O30: each is a step of its register by nn + 1, up or down. -/
theorem longSteps : Obligations.LongSteps := by
  intro s nn
  refine ⟨?ikl, ?ixl, ?iyl, ?izl, ?dkl, ?dxl, ?dyl, ?dzl⟩
  case ikl => exact .of_longStepUp (r := .K) (.of_f2 rfl rfl) (exec_ikl nn s)
  case ixl => exact .of_longStepUp (r := .X) (.of_f2 rfl rfl) (exec_ixl nn s)
  case iyl => exact .of_longStepUp (r := .Y) (.of_f2 rfl rfl) (exec_iyl nn s)
  case izl => exact .of_longStepUp (r := .Z) (.of_f2 rfl rfl) (exec_izl nn s)
  case dkl => exact .of_longStepDown (r := .K) (.of_f2 rfl rfl) (exec_dkl nn s)
  case dxl => exact .of_longStepDown (r := .X) (.of_f2 rfl rfl) (exec_dxl nn s)
  case dyl => exact .of_longStepDown (r := .Y) (.of_f2 rfl rfl) (exec_dyl nn s)
  case dzl => exact .of_longStepDown (r := .Z) (.of_f2 rfl rfl) (exec_dzl nn s)

/-- Settles O31: each is a write of K, for GTA read off the halves of K. -/
theorem addressConstants : Obligations.AddressConstants := by
  intro s nn
  refine ⟨?gta, ?gtr, ?adr⟩
  case gta =>
    refine (RunsTwoBytes.of_write16imm (.of_f2 rfl rfl) (exec_gta nn s)).imp fun t (hK : t.K = zext16 nn) => ⟨?A, ?B⟩
    case A => rw [← t.highByte_K, hK, highByte_zext16]
    case B => rw [← t.lowByte_K, hK, lowByte_zext16]
  case gtr =>
    exact (RunsTwoBytes.of_write16imm (.of_f2 rfl rfl) (exec_gtr nn s)).imp fun t (hK : t.K = _) =>
      hK ▸ s.forward_toNat nn
  case adr =>
    refine (RunsTwoBytes.of_write16imm (.of_f2 rfl rfl) (exec_adr nn s)).imp fun t (hK : t.K = _) => ?_
    rw [hK, BitVec.toNat_add, BitVec.toNat_add, BitVec.toNat_add, zext16_toNat, show (3 : Word).toNat = 3 from rfl]
    omega

/-- Settles O32: NOL is idle but for nn = 0, where it is a write of K. -/
theorem longNoOperation : Obligations.LongNoOperation :=
  ⟨fun s _ hnn => .of_idle2 (.of_f2 rfl rfl) (exec_nol_of_ne_zero hnn s),
    fun s => .of_write16imm (r := .K) (.of_f2 rfl rfl) (exec_nol_zero s)⟩

/-- Settles O33: GT.Q and S.RP are writes of a 16-bit register, O.RP a write of R before a jump, NO1 and NO2 idle. -/
theorem linkRegistersAndNoOperations : Obligations.LinkRegistersAndNoOperations := by
  intro s nn
  refine ⟨?gtQ, ?sRP, ?oRP, ?no1, ?no2⟩
  case gtQ => exact .of_write16 (r := .K) (.of_f1 rfl rfl) (exec_gtQ s)
  case sRP =>
    exact (RunsOneByte.of_write16 (r := .R) (.of_f1 rfl rfl) (exec_sRP s)).imp fun t (hR : t.R = _) =>
      hR ▸ BitVec.toNat_add s.P 1
  case oRP =>
    have hRetired := State.retire_retired (s := s) (u := s.set16 .R (s.P + 2)) rfl rfl (s.forward nn) 3 (some (s.P + 1))
    have hTarget : ((s.forward nn).toNat : Int) = (s.P.toNat + nn.toNat + 3) % 65536 :=
      congrArg Nat.cast (s.forward_toNat nn)
    have hFrame : KeepsBut [.R] s (s.set16 .R (s.P + 2)) := (KeepsBut.refl _ s).set16 .R _ (by decide)
    exact ⟨.of_f2 rfl rfl, Runs.of_retired (exec_oRP nn s) (BitVec.toNat_add s.P 2) hRetired hTarget
      (hFrame.retire _ _ _)⟩
  case no1 => exact .of_idle1 (.of_f1 rfl rfl) (exec_no1 s)
  case no2 => exact .of_idle1 (.of_f1 rfl rfl) (exec_no2 s)

end Sys2Proof.Machine
end

section
/-! Certificate of O34, O35, O37 to O39 and O41, the branches, the jumps to R that test V, the counting loops and the return
from a call (R293 to R311, R313, R314, R321 to R329 of spec/47_control.md). First the targets and what S is after a count; then
the shapes; then the instructions. -/

namespace Sys2Proof.Machine

/-! Targets and counts. -/

/-- The address a branch on a condition goes to is an integer modulo 2^16 (R28, R291). -/
theorem branch_target {target : Word} {goal : Int} (h : (target.toNat : Int) = goal % 65536) (taken : Bool) (s : State) :
    ((if taken then target else s.P + 2).toNat : Int) = (if taken then goal else s.P.toNat + 2) % 65536 := by
  cases taken
  case false => exact toNat_add_two_mod s.P
  case true => exact h

/-- The target of a forward branch, as an integer (R291). -/
theorem State.forward_target (s : State) (nn : Byte) :
    ((s.forward nn).toNat : Int) = (s.P.toNat + nn.toNat + 3) % 65536 :=
  congrArg Nat.cast (s.forward_toNat nn)

/-- The target of a backward branch, as an integer (R291). -/
theorem State.backward_target (s : State) (nn : Byte) :
    ((s.backward nn).toNat : Int) = (s.P.toNat - nn.toNat - 1) % 65536 :=
  toNat_sub_zext16_sub_one s.P nn

/-- A count down that does not start from zero does not wrap. -/
theorem toNat_sub_one_of_ne_zero {a : Word} (h : a ≠ 0) : (a - 1).toNat = a.toNat - 1 := by
  have hpos : a.toNat ≠ 0 := fun e => h (BitVec.eq_of_toNat_eq e)
  rw [BitVec.toNat_sub, show (1 : Word).toNat = 1 from rfl]
  have := a.isLt
  omega

/-! Branches and jumps on a condition. -/

theorem branch_answers (c : Cond) (target : Word) (s : State) : ∃ t, branch c target s = .next t := by
  unfold branch
  split <;> exact ⟨_, rfl⟩

/-- An instruction that is a branch on a condition that does not test V: no register but P and no flag changes. -/
theorem RunsBranch.of_branch_keepsV {i : Instr} {op nn : Byte} {c : Cond} {taken : Bool} {target : Word} {goal : Int}
    {s : State} (he : IsEncodedAs i [op, nn]) (h : exec i s = branch c target s) (hc : c.testsV = false)
    (ht : s.holds c = taken) (hTarget : (target.toNat : Int) = goal % 65536) :
    RunsBranch i op nn taken goal [] s (fun _ => True) := by
  subst ht
  obtain ⟨t, hbranch⟩ := branch_answers c target s
  obtain ⟨hr, hV, hk⟩ := branch_next hbranch
  have hsame : Part.V.same s t := by simpa [Part.same, hc] using hV
  exact ⟨he, Runs.of_retired (h.trans hbranch) trivial hr (branch_target hTarget _ s) (hk.of_same hsame)⟩

/-- An instruction that is a branch on a condition that tests V: V is clear, taken or not (R291 (c), D9). -/
theorem RunsBranch.of_branch_clearsV {i : Instr} {op nn : Byte} {c : Cond} {taken : Bool} {target : Word} {goal : Int}
    {s : State} (he : IsEncodedAs i [op, nn]) (h : exec i s = branch c target s) (hc : c.testsV = true)
    (ht : s.holds c = taken) (hTarget : (target.toNat : Int) = goal % 65536) :
    RunsBranch i op nn taken goal [.V] s (fun t => t.V = false) := by
  subst ht
  obtain ⟨t, hbranch⟩ := branch_answers c target s
  obtain ⟨hr, hV, hk⟩ := branch_next hbranch
  rw [if_pos hc] at hV
  exact ⟨he, Runs.of_retired (h.trans hbranch) hV hr (branch_target hTarget _ s) hk⟩

/-- An instruction that is a jump to R on a condition that tests V: V is clear, taken or not (R291 (c), D9). -/
theorem RunsJumpR.of_jumpR_clearsV {i : Instr} {op : Byte} {c : Cond} {taken : Bool} {s : State}
    (he : IsEncodedAs i [op]) (h : exec i s = jumpR c s) (hc : c.testsV = true) (ht : s.holds c = taken) :
    RunsJumpR i op taken [.V] s (fun t => t.V = false) := by
  subst ht
  obtain ⟨t, hjump⟩ := jumpR_answers c s
  obtain ⟨hr, hV, hk⟩ := jumpR_next hjump
  rw [if_pos hc] at hV
  exact ⟨he, Runs.of_retired (h.trans hjump) hV hr (jumpR_target (s.holds c) s) hk⟩

/-! Counting loops. -/

/-- A frame holds with more parts listed. -/
theorem KeepsBut.mono {written written' : List Part} {s t : State} (h : KeepsBut written s t) (hw : written ⊆ written') :
    KeepsBut written' s t :=
  fun p hp => h p fun hmem => hp (hw hmem)

theorem countBranch_answers (nn : Byte) (s : State) : ∃ t, countBranch nn s = .next t := by
  unfold countBranch
  split <;> exact ⟨_, rfl⟩

/-- An instruction that is the counting branch: S counts down to zero and stays there (R311). -/
theorem RunsBranch.of_countBranch {i : Instr} {op nn : Byte} {s : State} (he : IsEncodedAs i [op, nn])
    (h : exec i s = countBranch nn s) :
    RunsBranch i op nn (s.S != 0) (s.P.toNat - nn.toNat - 1) [.S] s (fun t => t.S.toNat = s.S.toNat - 1) := by
  obtain ⟨t, ht⟩ := countBranch_answers nn s
  obtain ⟨⟨hS, hcount, hr⟩ | ⟨hS, hcount, hr⟩, hk⟩ := countBranch_next ht
  · have hpost : t.S.toNat = s.S.toNat - 1 := hcount ▸ toNat_sub_one_of_ne_zero hS
    rw [bne_iff_ne.mpr hS]
    exact ⟨he, Runs.of_retired (h.trans ht) hpost hr (s.backward_target nn) hk⟩
  · have hpost : t.S.toNat = s.S.toNat - 1 := by rw [hcount, hS]; rfl
    rw [show (s.S != 0) = false by rw [hS]; rfl]
    exact ⟨he, Runs.of_retired (h.trans ht) hpost hr (toNat_add_two_mod s.P) hk⟩

theorem countJumpR_answers (step : State → State) (s : State) : ∃ t, countJumpR step s = .next t := by
  unfold countJumpR
  split <;> exact ⟨_, rfl⟩

/-- An instruction that is a counting jump whose step writes nothing but the parts listed: the state before its end where S is
not zero, or nothing changed (R321 to R327, D11). -/
theorem RunsJumpR.of_countJumpR {i : Instr} {op : Byte} {step : State → State} {written : List Part} {s : State}
    {post : State → Prop} (he : IsEncodedAs i [op]) (h : exec i s = countJumpR step s)
    (hu : (step (s.set16 .S (s.S - 1))).platform = s.platform ∧ (step (s.set16 .S (s.S - 1))).cycles = s.cycles)
    (hk : KeepsBut written s (step (s.set16 .S (s.S - 1))))
    (hcount : s.S ≠ 0 → post ((step (s.set16 .S (s.S - 1))).retire s.R 1 none))
    (hzero : s.S = 0 → ∀ t, KeepsBut [] s t → post t) : RunsJumpR i op (s.S != 0) written s post := by
  obtain ⟨t, ht⟩ := countJumpR_answers step s
  rcases countJumpR_next ht with ⟨hS, rfl⟩ | ⟨hS, hr, hkeep⟩
  · have hr := State.retire_retired hu.1 hu.2 s.R 1 none
    rw [bne_iff_ne.mpr hS]
    exact ⟨he, Runs.of_retired (h.trans ht) (hcount hS) hr (toNat_emod_65536 s.R) (hk.retire s.R 1 none)⟩
  · rw [show (s.S != 0) = false by rw [hS]; rfl]
    exact ⟨he, Runs.of_retired (h.trans ht) (hzero hS t hkeep) hr (toNat_add_one_mod s.P) (hkeep.mono (List.nil_subset _))⟩

/-- What is said of the next state may be replaced by what follows from it. -/
theorem RunsJumpR.imp {i : Instr} {op : Byte} {taken : Bool} {written : List Part} {s : State} {post post' : State → Prop}
    (h : RunsJumpR i op taken written s post) (hp : ∀ t, post t → post' t) : RunsJumpR i op taken written s post' := by
  obtain ⟨he, t, hx, ht, hrest⟩ := h
  exact ⟨he, t, hx, hp t ht, hrest⟩

/-- A 16-bit register whose parts are kept is kept. -/
theorem KeepsBut.get16 {s t : State} (h : KeepsBut [] s t) (r : PtrReg) : t.get16 r.reg = s.get16 r.reg := by
  cases r
  case X => exact h .X List.not_mem_nil
  case Y => exact h .Y List.not_mem_nil
  case Z => exact h .Z List.not_mem_nil

/-- An instruction that is a counting jump with a write of an address register (R322 to R327). -/
theorem RunsJumpR.of_countJumpStep {i : Instr} {op : Byte} {r : PtrReg} {v : Word} {s : State} (he : IsEncodedAs i [op])
    (h : exec i s = countJumpR (fun t => t.set16 r.reg v) s) :
    RunsJumpR i op (s.S != 0) (.S :: r.reg.parts) s
      (fun t => if s.S = 0 then t.S = s.S ∧ t.get16 r.reg = s.get16 r.reg
        else t.S.toNat = s.S.toNat - 1 ∧ t.get16 r.reg = v) := by
  refine .of_countJumpR he h ⟨?platform, ?cycles⟩ ?frame (fun hS => ?count) (fun hS t hk => ?zero)
  case platform => rw [State.set16_platform, State.set16_platform]
  case cycles => rw [State.set16_cycles, State.set16_cycles]
  case frame =>
    exact ((KeepsBut.refl _ s).set16 .S _ (List.cons_subset_cons _ (List.nil_subset _))).set16 r.reg v
      (List.subset_cons_self _ _)
  case count =>
    rw [if_neg hS]
    have hcount := toNat_sub_one_of_ne_zero hS
    cases r <;> exact ⟨hcount, rfl⟩
  case zero =>
    rw [if_pos hS]
    exact ⟨hk .S List.not_mem_nil, hk.get16 r⟩

/-- A counting jump with a step up of an address register. -/
theorem RunsJumpR.of_countJumpUp {i : Instr} {op : Byte} {r : PtrReg} {s : State} (he : IsEncodedAs i [op])
    (h : exec i s = countJumpR (fun t => t.set16 r.reg (s.get16 r.reg + 1)) s) :
    RunsJumpR i op (s.S != 0) (.S :: r.reg.parts) s
      (fun t => if s.S = 0 then t.S = s.S ∧ t.get16 r.reg = s.get16 r.reg
        else t.S.toNat = s.S.toNat - 1 ∧ (t.get16 r.reg).toNat = ((s.get16 r.reg).toNat + 1) % 65536) := by
  refine (RunsJumpR.of_countJumpStep he h).imp fun t ht => ?_
  split at ht
  next hS => rwa [if_pos hS]
  next hS => rw [if_neg hS]; exact ⟨ht.1, ht.2 ▸ BitVec.toNat_add (s.get16 r.reg) 1⟩

/-- A counting jump with a step down of an address register. -/
theorem RunsJumpR.of_countJumpDown {i : Instr} {op : Byte} {r : PtrReg} {s : State} (he : IsEncodedAs i [op])
    (h : exec i s = countJumpR (fun t => t.set16 r.reg (s.get16 r.reg - 1)) s) :
    RunsJumpR i op (s.S != 0) (.S :: r.reg.parts) s
      (fun t => if s.S = 0 then t.S = s.S ∧ t.get16 r.reg = s.get16 r.reg
        else t.S.toNat = s.S.toNat - 1 ∧ ((t.get16 r.reg).toNat : Int) = (((s.get16 r.reg).toNat : Int) - 1) % 65536) := by
  refine (RunsJumpR.of_countJumpStep he h).imp fun t ht => ?_
  split at ht
  next hS => rwa [if_pos hS]
  next hS => rw [if_neg hS]; exact ⟨ht.1, ht.2 ▸ toNat_sub_emod (s.get16 r.reg) 1⟩

/-! The instructions. -/

theorem exec_oWY (nn : Byte) (s : State) : exec (.oWY nn) s = branch .WY (s.forward nn) s := rfl

theorem exec_oVZ (nn : Byte) (s : State) : exec (.oVZ nn) s = branch .VZ (s.forward nn) s := rfl

theorem exec_oVS (nn : Byte) (s : State) : exec (.oVS nn) s = branch .VS (s.forward nn) s := rfl

theorem exec_oUZ (nn : Byte) (s : State) : exec (.oUZ nn) s = branch .UZ (s.forward nn) s := rfl

theorem exec_oUS (nn : Byte) (s : State) : exec (.oUS nn) s = branch .US (s.forward nn) s := rfl

theorem exec_oAZ (nn : Byte) (s : State) : exec (.oAZ nn) s = branch .AZ (s.forward nn) s := rfl

theorem exec_oAS (nn : Byte) (s : State) : exec (.oAS nn) s = branch .AS (s.forward nn) s := rfl

theorem exec_oKZ (nn : Byte) (s : State) : exec (.oKZ nn) s = branch .KZ (s.forward nn) s := rfl

theorem exec_oKS (nn : Byte) (s : State) : exec (.oKS nn) s = branch .KS (s.forward nn) s := rfl

theorem exec_bWY (nn : Byte) (s : State) : exec (.bWY nn) s = branch .WY (s.backward nn) s := rfl

theorem exec_bVZ (nn : Byte) (s : State) : exec (.bVZ nn) s = branch .VZ (s.backward nn) s := rfl

theorem exec_bVS (nn : Byte) (s : State) : exec (.bVS nn) s = branch .VS (s.backward nn) s := rfl

theorem exec_bUZ (nn : Byte) (s : State) : exec (.bUZ nn) s = branch .UZ (s.backward nn) s := rfl

theorem exec_bUS (nn : Byte) (s : State) : exec (.bUS nn) s = branch .US (s.backward nn) s := rfl

theorem exec_bAZ (nn : Byte) (s : State) : exec (.bAZ nn) s = branch .AZ (s.backward nn) s := rfl

theorem exec_bAS (nn : Byte) (s : State) : exec (.bAS nn) s = branch .AS (s.backward nn) s := rfl

theorem exec_bKZ (nn : Byte) (s : State) : exec (.bKZ nn) s = branch .KZ (s.backward nn) s := rfl

theorem exec_bKS (nn : Byte) (s : State) : exec (.bKS nn) s = branch .KS (s.backward nn) s := rfl

theorem exec_rVZ (s : State) : exec .rVZ s = jumpR .VZ s := rfl

theorem exec_rVS (s : State) : exec .rVS s = jumpR .VS s := rfl

theorem exec_bCN (nn : Byte) (s : State) : exec (.bCN nn) s = countBranch nn s := rfl

theorem exec_rCN (s : State) : exec .rCN s = countJumpR id s := rfl

theorem exec_rIX (s : State) : exec .rIX s = countJumpR (fun t => t.set16 .X (s.X + 1)) s := rfl

theorem exec_rIY (s : State) : exec .rIY s = countJumpR (fun t => t.set16 .Y (s.Y + 1)) s := rfl

theorem exec_rIZ (s : State) : exec .rIZ s = countJumpR (fun t => t.set16 .Z (s.Z + 1)) s := rfl

theorem exec_rDX (s : State) : exec .rDX s = countJumpR (fun t => t.set16 .X (s.X - 1)) s := rfl

theorem exec_rDY (s : State) : exec .rDY s = countJumpR (fun t => t.set16 .Y (s.Y - 1)) s := rfl

theorem exec_rDZ (s : State) : exec .rDZ s = countJumpR (fun t => t.set16 .Z (s.Z - 1)) s := rfl

/-- Settles O34: each is a forward branch on a condition that does not test V, KZ and KS told from A and B together. -/
theorem forwardBranches : Obligations.ForwardBranches := by
  intro s nn
  refine ⟨?oWY, ?oUZ, ?oUS, ?oAZ, ?oAS, ?oKZ, ?oKS⟩
  case oWY => exact .of_branch_keepsV (.of_f2 rfl rfl) (exec_oWY nn s) rfl rfl (s.forward_target nn)
  case oUZ => exact .of_branch_keepsV (.of_f2 rfl rfl) (exec_oUZ nn s) rfl rfl (s.forward_target nn)
  case oUS => exact .of_branch_keepsV (.of_f2 rfl rfl) (exec_oUS nn s) rfl rfl (s.forward_target nn)
  case oAZ => exact .of_branch_keepsV (.of_f2 rfl rfl) (exec_oAZ nn s) rfl rfl (s.forward_target nn)
  case oAS => exact .of_branch_keepsV (.of_f2 rfl rfl) (exec_oAS nn s) rfl rfl (s.forward_target nn)
  case oKZ => exact .of_branch_keepsV (.of_f2 rfl rfl) (exec_oKZ nn s) rfl s.holds_KZ (s.forward_target nn)
  case oKS => exact .of_branch_keepsV (.of_f2 rfl rfl) (exec_oKS nn s) rfl s.holds_KS (s.forward_target nn)

/-- Settles O35: each is a backward branch on a condition that does not test V, KZ and KS told from A and B together. -/
theorem backwardBranches : Obligations.BackwardBranches := by
  intro s nn
  refine ⟨?bWY, ?bUZ, ?bUS, ?bAZ, ?bAS, ?bKZ, ?bKS⟩
  case bWY => exact .of_branch_keepsV (.of_f2 rfl rfl) (exec_bWY nn s) rfl rfl (s.backward_target nn)
  case bUZ => exact .of_branch_keepsV (.of_f2 rfl rfl) (exec_bUZ nn s) rfl rfl (s.backward_target nn)
  case bUS => exact .of_branch_keepsV (.of_f2 rfl rfl) (exec_bUS nn s) rfl rfl (s.backward_target nn)
  case bAZ => exact .of_branch_keepsV (.of_f2 rfl rfl) (exec_bAZ nn s) rfl rfl (s.backward_target nn)
  case bAS => exact .of_branch_keepsV (.of_f2 rfl rfl) (exec_bAS nn s) rfl rfl (s.backward_target nn)
  case bKZ => exact .of_branch_keepsV (.of_f2 rfl rfl) (exec_bKZ nn s) rfl s.holds_KZ (s.backward_target nn)
  case bKS => exact .of_branch_keepsV (.of_f2 rfl rfl) (exec_bKS nn s) rfl s.holds_KS (s.backward_target nn)

/-- Settles O37: each is a branch, or a jump to R, on a condition that tests V. -/
theorem carryBranchesClearTheCarry : Obligations.CarryBranchesClearTheCarry := by
  intro s nn
  refine ⟨?oVZ, ?oVS, ?bVZ, ?bVS, ?rVZ, ?rVS⟩
  case oVZ => exact .of_branch_clearsV (.of_f2 rfl rfl) (exec_oVZ nn s) rfl rfl (s.forward_target nn)
  case oVS => exact .of_branch_clearsV (.of_f2 rfl rfl) (exec_oVS nn s) rfl rfl (s.forward_target nn)
  case bVZ => exact .of_branch_clearsV (.of_f2 rfl rfl) (exec_bVZ nn s) rfl rfl (s.backward_target nn)
  case bVS => exact .of_branch_clearsV (.of_f2 rfl rfl) (exec_bVS nn s) rfl rfl (s.backward_target nn)
  case rVZ => exact .of_jumpR_clearsV (.of_f1 rfl rfl) (exec_rVZ s) rfl rfl
  case rVS => exact .of_jumpR_clearsV (.of_f1 rfl rfl) (exec_rVS s) rfl rfl

/-- Settles O38: B.CN is the counting branch, R.CN a counting jump that writes S alone. -/
theorem countingLoops : Obligations.CountingLoops := by
  intro s nn
  refine ⟨?bCN, ?rCN⟩
  case bCN => exact .of_countBranch (.of_f2 rfl rfl) (exec_bCN nn s)
  case rCN =>
    have hFrame : KeepsBut [.S] s (s.set16 .S (s.S - 1)) := (KeepsBut.refl _ s).set16 .S _ (List.Subset.refl _)
    refine .of_countJumpR (.of_f1 rfl rfl) (exec_rCN s) ⟨rfl, rfl⟩ hFrame toNat_sub_one_of_ne_zero fun hS t hk => ?_
    have hkept : t.S = s.S := hk .S List.not_mem_nil
    rw [hkept, hS]
    rfl

/-- Settles O39: each is a counting jump with a step of its address register. -/
theorem countingLoopsWithPointerStep : Obligations.CountingLoopsWithPointerStep := by
  intro s
  refine ⟨?rIX, ?rIY, ?rIZ, ?rDX, ?rDY, ?rDZ⟩
  case rIX => exact .of_countJumpUp (r := .X) (.of_f1 rfl rfl) (exec_rIX s)
  case rIY => exact .of_countJumpUp (r := .Y) (.of_f1 rfl rfl) (exec_rIY s)
  case rIZ => exact .of_countJumpUp (r := .Z) (.of_f1 rfl rfl) (exec_rIZ s)
  case rDX => exact .of_countJumpDown (r := .X) (.of_f1 rfl rfl) (exec_rDX s)
  case rDY => exact .of_countJumpDown (r := .Y) (.of_f1 rfl rfl) (exec_rDY s)
  case rDZ => exact .of_countJumpDown (r := .Z) (.of_f1 rfl rfl) (exec_rDZ s)

/-- Settles O41: a J.. leaves the byte after it in Q, GT.Q copies Q to K, and the second J.. goes to K. -/
theorem callAndReturn : Obligations.CallAndReturn := by
  intro s t t' u v hCall hQ hCopy hReturn
  rw [exec_gtQ] at hCopy
  obtain ⟨hK, -, -⟩ := write16_next hCopy
  cases hCall
  cases hReturn
  have hLink : u.K = s.P + 1 := hK.trans hQ
  exact ⟨(congrArg BitVec.toNat hLink).trans (BitVec.toNat_add s.P 1), rfl, rfl, rfl⟩

end Sys2Proof.Machine
end

section
/-! Certificate of O43 to O47, the three cases of H.. (R333 to R336 of spec/48_paging_io.md) and the platform interface (R55, R56,
R62 of spec/20_memory.md). First what an output, an input and the halt leave unchanged; then H..; then the platforms. -/

namespace Sys2Proof.Machine

/-! Frames. -/

/-- A K output changes no part but the output and the record of the signals (R58). -/
theorem KeepsBut.kOut {written : List Part} {s u : State} (h : KeepsBut written s u) (k : Word) (ho : .output ∈ written)
    (he : .events ∈ written) : KeepsBut written s (u.kOut k) := by
  intro p hp
  have hsame := h p hp
  cases p
  case output => exact absurd ho hp
  case events => exact absurd he hp
  all_goals exact hsame

/-- The halt changes no part but the halted state (R35). -/
theorem KeepsBut.halt {written : List Part} {s u : State} (h : KeepsBut written s u) (hw : .halted ∈ written) :
    KeepsBut written s u.halt := by
  intro p hp
  have hsame := h p hp
  cases p
  case halted => exact absurd hw hp
  all_goals exact hsame

/-- An I/O input changes no part but A, what the environment has ready, and the record of the signals (R335). -/
theorem KeepsBut.inputA {written : List Part} {s u : State} (h : KeepsBut written s u) (k : Word) (hA : .A ∈ written)
    (hi : .inputs ∈ written) (hc : .ioCount ∈ written) (he : .events ∈ written) : KeepsBut written s (u.inputA k) := by
  intro p hp
  have hsame := h p hp
  cases p
  case A => exact absurd hA hp
  case inputs => exact absurd hi hp
  case ioCount => exact absurd hc hp
  case events => exact absurd he hp
  case output => exact (Platform.ioRead_output ..).trans hsame
  all_goals exact hsame

/-! The three cases of `H..`, before their end. -/

/-- Every case begins so: the following opcode is fetched and the page switch for P signalled in that cycle (R333). -/
def State.openPage (s : State) : State := s.fetchNext.pageSwitch .BP .FE

/-- Before an `H..`, K is shown as the final output and the CPU halts (R336). -/
def State.outputAndHalt (s : State) : State := (s.openPage.kOut s.K).halt

/-- Before any other opcode but `J..`, a byte is read into A and the page switch cancelled (R335). -/
def State.inputAndCancel (s : State) : State := (s.openPage.inputA s.K).pageSwitch .BP .HA

theorem State.openPage_cycles (s : State) : s.openPage.cycles = s.cycles := by simp [State.openPage]

theorem State.outputAndHalt_cycles (s : State) : s.outputAndHalt.cycles = s.cycles := by
  simp [State.outputAndHalt, State.openPage]

theorem State.inputAndCancel_cycles (s : State) : s.inputAndCancel.cycles = s.cycles := by
  simp [State.inputAndCancel, State.openPage]

theorem State.openPage_keepsBut {written : List Part} (s : State) (he : .events ∈ written) :
    KeepsBut written s s.openPage :=
  (KeepsBut.refl _ s).fetchNext.pageSwitch .BP .FE he

theorem State.outputAndHalt_keepsBut (s : State) : KeepsBut [.halted, .events, .output] s s.outputAndHalt :=
  ((s.openPage_keepsBut (by decide)).kOut s.K (by decide) (by decide)).halt (by decide)

theorem State.inputAndCancel_keepsBut (s : State) : KeepsBut [.A, .inputs, .ioCount, .events] s s.inputAndCancel :=
  ((s.openPage_keepsBut (by decide)).inputA s.K (by decide) (by decide) (by decide) (by decide)).pageSwitch .BP .HA
    (by decide)

theorem exec_h_of_jump {s : State} (h : s.memRead .FE (s.P + 1) = 0xff) :
    exec .h s = .next (s.openPage.retireSignals s [(.FE, .BP)]) :=
  execH_of_jump h

theorem exec_h_of_halt {s : State} (h : s.memRead .FE (s.P + 1) = 0x00) :
    exec .h s = .next (s.outputAndHalt.retireSignals s [(.FE, .BP), (.KA, .BN)]) :=
  execH_of_halt h

theorem exec_h_of_input {s : State} (h1 : s.memRead .FE (s.P + 1) ≠ 0xff) (h2 : s.memRead .FE (s.P + 1) ≠ 0x00) :
    exec .h s = .next (s.inputAndCancel.retireSignals s [(.FE, .BP), (.HA, .BP)]) :=
  execH_of_input h1 h2

/-- Settles O43: before a J.., H.. only signals the page switch. -/
theorem hBeforeJSwitchesThePage : Obligations.HBeforeJSwitchesThePage := by
  intro s hJ
  have hEvents : s.openPage.platform.events = s.platform.events ++ [.pageSwitch .BP .FE] := by simp [State.openPage]
  have hMemory : s.openPage.platform.mem = s.platform.mem := by simp [State.openPage]
  exact .of_retireSignals (.of_f1 rfl rfl) (exec_h_of_jump hJ) ⟨hJ, hEvents⟩ s.openPage_cycles rfl hMemory
    (s.openPage_keepsBut (by decide))

/-- Settles O44: before an opcode that is neither J.. nor H.., H.. reads A from the platform between two page switches. -/
theorem hBeforeAnotherOpcodeInputsA : Obligations.HBeforeAnotherOpcodeInputsA := by
  intro s hJ hH
  have hEvents : s.inputAndCancel.platform.events
      = s.platform.events ++ [.pageSwitch .BP .FE, .ioRead s.K s.inputAndCancel.A, .pageSwitch .BP .HA] := by
    simp [State.inputAndCancel, State.openPage]
  have hMemory : s.inputAndCancel.platform.mem = s.platform.mem := by simp [State.inputAndCancel, State.openPage]
  refine .of_retireSignals (.of_f1 rfl rfl) (exec_h_of_input hJ hH) ⟨rfl, hEvents, fun hDefault => ?queued⟩
    s.inputAndCancel_cycles rfl hMemory s.inputAndCancel_keepsBut
  case queued =>
    have hOpen : s.openPage.platform.external = none :=
      Platform.run_default (as := [.read .FE (s.P + 1), .pageSwitch .BP .FE]) hDefault
    have hQueue : s.openPage.platform.inputs = s.platform.inputs := by simp [State.openPage]
    have hCount : s.openPage.platform.ioCount = s.platform.ioCount := by simp [State.openPage]
    have hInput := Platform.ioRead_default hOpen s.K
    rw [hQueue, hCount] at hInput
    exact ⟨congrArg Prod.fst hInput, congrArg (·.2.inputs) hInput, congrArg (·.2.ioCount) hInput⟩

/-- Settles O45: before an H.., H.. shows K and halts. -/
theorem hBeforeHHalts : Obligations.HBeforeHHalts := by
  intro s hH
  have hEvents : s.outputAndHalt.platform.events = s.platform.events ++ [.pageSwitch .BP .FE, .kOut s.K] := by
    simp [State.outputAndHalt, State.openPage]
  have hMemory : s.outputAndHalt.platform.mem = s.platform.mem := by simp [State.outputAndHalt, State.openPage]
  exact .of_retireSignals (.of_f1 rfl rfl) (exec_h_of_halt hH) ⟨rfl, hH, rfl, hEvents⟩ s.outputAndHalt_cycles rfl
    hMemory s.outputAndHalt_keepsBut

/-! The platforms. -/

/-- On another platform every operation is the parameter's (R55, D14). -/
theorem platform_of_external (pi : Platform) (t prev : BusType) (a k : Word) (v : Byte) (e : Nat)
    (h : pi.external = some e) :
    (pi.read t a).1 = (Config.platformRead t a e).1
      ∧ (pi.read t a).2 = { pi with external := some (Config.platformRead t a e).2 }
      ∧ pi.write t a v = { pi with external := some (Config.platformWrite t a v e) }
      ∧ (pi.ioRead k).1 = (Config.platformIoRead k e).1
      ∧ (pi.ioRead k).2.external = some (Config.platformIoRead k e).2
      ∧ (pi.kOut k).external = some (Config.platformKOut k e)
      ∧ (pi.pageSwitch t prev).external = some (Config.platformPageSwitch t prev e) := by
  simp [Platform.read, Platform.write, Platform.ioRead, Platform.kOut, Platform.pageSwitch, h]

/-- Settles O46: the laws of the platform interface, put together. -/
theorem platformsAreTheDefaultOrTheParameter : Obligations.PlatformsAreTheDefaultOrTheParameter := by
  intro pi t prev a k v
  refine ⟨fun e he => ?another, fun hd => ⟨Platform.read_default hd t a, fun hwf => ⟨pi.write_wf t a v hwf, ?written⟩,
    fun b hb => pi.write_get_other t a b v hb, Platform.pageSwitch_default hd t prev, Platform.kOut_default hd k,
    fun fetched n => Platform.unstated_default hd fetched n⟩⟩
  case another =>
    obtain ⟨h1, h2, h3, h4, h5, h6, h7⟩ := platform_of_external pi t prev a k v e he
    exact ⟨h1, h2, h3, h4, h5, h6, h7, pi.ioRead_mem k, rfl, rfl⟩
  case written =>
    rw [Platform.write_default hd]
    exact Memory.get_set_same pi.mem 0 a.toNat v hwf

/-- No unstated cycle does nothing to any platform. -/
theorem Platform.unstated_zero (pi : Platform) (fetched : Bool) : pi.unstated fetched 0 = pi := by
  obtain ⟨external, _⟩ := pi
  cases external <;> rfl

/-- Settles O47: the fetch comes after the operand, and data access and fetch in the order FETCH_ORDER selects. -/
theorem accessesFollowTheFetchOrder : Obligations.AccessesFollowTheFetchOrder := by
  intro pi t a target v n
  refine ⟨?fetch, ?operand, rfl, inFetchOrder_eq _ _, inFetchOrder_eq _ _⟩
  case fetch => simp only [Platform.fetchAfter, Platform.unstated_zero]
  case operand => simp only [Platform.fetchAfter, Platform.unstated_zero]

end Sys2Proof.Machine
end

section
/-! Certificate of O50 to O60, part one: what holds of every instruction. The 256 instructions come in two dozen shapes, one
for each shared operation of Machine/Operands.lean. First the shapes and the shape of each instruction; then, by cases over the
shapes alone, what an instruction may change, how it ends and what it does not look at. -/

namespace Sys2Proof.Machine

/-! What an instruction may not look at. -/

/-- The same state but for Q and for the model's own records of time and bus. -/
def State.disguise (s : State) (q : Word) (c : Nat) (b : BusActivity) (f : Option (List (BusType × BusType))) : State :=
  { s with Q := q, cycles := c, bus := b, fullCycles := f }

/-- The value depends neither on Q nor on the records of time and bus. -/
def Blind {α : Type} (v : State → α) : Prop := ∀ s q c b f, v (s.disguise q c b f) = v s

/-! The shapes. -/

/-- The shared operation that an instruction is, without the values it computes. -/
inductive Shape where
  | alu8 (src : Source8) | alu8V (src : Source8) | storeA (r : PtrReg)
  | writeA | writeB | writeV | writeU | writeAV | writeBV | writeKV
  | write16 (r : Reg16) | write16imm (r : Reg16) | copyQ | exchange16 (r q : Reg16) | write16swapAB (r : PtrReg)
  | idle1 (n : Nat) | nol (nn : Byte)
  | branch (c : Cond) | jumpR (c : Cond) | countJumpR | countJumpStep (r : PtrReg) | countBranch (nn : Byte)
  | linkBranch (nn : Byte) | jumpAndLink | switchPage (r : PtrReg) | h

/-- This meaning is an operation of this shape, and what it computes depends neither on Q, but in GT.Q, nor on the records. -/
inductive Shape.Of : Shape → (State → Result) → Prop
  | alu8 (f : Byte → Byte → Byte) (src : Source8) : Of (.alu8 src) (Machine.alu8 f src)
  | alu8V (f : Byte → Byte → Bool → Byte × Bool) (src : Source8) : Of (.alu8V src) (Machine.alu8V f src)
  | storeA (r : PtrReg) : Of (.storeA r) (Machine.storeA r)
  | writeA {v : State → Byte} (hv : Blind v) : Of .writeA (fun s => Machine.writeA (v s) s)
  | writeB {v : State → Byte} (hv : Blind v) : Of .writeB (fun s => Machine.writeB (v s) s)
  | writeV {v : State → Bool} (hv : Blind v) : Of .writeV (fun s => Machine.writeV (v s) s)
  | writeU {v : State → Bool} (hv : Blind v) : Of .writeU (fun s => Machine.writeU (v s) s)
  | writeAV {v : State → Byte × Bool} (hv : Blind v) : Of .writeAV (fun s => Machine.writeAV (v s) s)
  | writeBV {v : State → Byte × Bool} (hv : Blind v) : Of .writeBV (fun s => Machine.writeBV (v s) s)
  | writeKV {v : State → Word × Bool} (hv : Blind v) : Of .writeKV (fun s => Machine.writeKV (v s) s)
  | write16 (r : Reg16) {v : State → Word} (hv : Blind v) : Of (.write16 r) (fun s => Machine.write16 r (v s) s)
  | write16imm (r : Reg16) {v : State → Word} (hv : Blind v) : Of (.write16imm r) (fun s => Machine.write16imm r (v s) s)
  | copyQ : Of .copyQ (fun s => Machine.write16 .K s.Q s)
  | exchange16 (r q : Reg16) (hrq : r ≠ q) : Of (.exchange16 r q) (Machine.exchange16 r q)
  | write16swapAB (r : PtrReg) {v : State → Word} (hv : Blind v) :
      Of (.write16swapAB r) (fun s => Machine.write16swapAB r.reg (v s) s)
  | idle1 (n : Nat) : Of (.idle1 n) (Machine.idle1 n)
  | nol (nn : Byte) : Of (.nol nn) (execNol nn)
  | branch (c : Cond) {target : State → Word} (hv : Blind target) :
      Of (.branch c) (fun s => Machine.branch c (target s) s)
  | jumpR (c : Cond) : Of (.jumpR c) (Machine.jumpR c)
  | countJumpR : Of .countJumpR (Machine.countJumpR id)
  | countJumpStep (r : PtrReg) {v : State → Word} (hv : Blind v) :
      Of (.countJumpStep r) (fun s => Machine.countJumpR (fun t => t.set16 r.reg (v s)) s)
  | countBranch (nn : Byte) : Of (.countBranch nn) (Machine.countBranch nn)
  | linkBranch (nn : Byte) : Of (.linkBranch nn) (execORP nn)
  | jumpAndLink : Of .jumpAndLink execJ
  | switchPage (r : PtrReg) : Of (.switchPage r) (Machine.switchPage r)
  | h : Of .h execH

/-- The shape of every instruction: which shared operation its meaning calls. -/
def shapeOf : Instr → Shape
  | .h => .h
  | .stS | .zoS | .slS | .rsX | .rsY | .rsZ | .icS | .dcS => .write16 .S
  | .ssX | .stX | .ix0 | .ix1 | .ix2 | .ix3 | .ix4 | .ix5 | .ix6 | .ix7 | .zoX | .slX | .dx0 | .dx1 | .dx2 | .dx3 |
    .dx4 | .dx5 | .dx6 | .dx7 => .write16 .X
  | .ssY | .stY | .iy0 | .iy1 | .iy2 | .iy3 | .iy4 | .iy5 | .iy6 | .iy7 | .zoY | .slY | .dy0 | .dy1 | .dy2 | .dy3 |
    .dy4 | .dy5 | .dy6 | .dy7 => .write16 .Y
  | .ssZ | .stZ | .iz0 | .iz1 | .iz2 | .iz3 | .iz4 | .iz5 | .iz6 | .iz7 | .zoZ | .slZ | .dz0 | .dz1 | .dz2 | .dz3 |
    .dz4 | .dz5 | .dz6 | .dz7 => .write16 .Z
  | .oVZ _ | .bVZ _ => .branch .VZ
  | .oVS _ | .bVS _ => .branch .VS
  | .oUZ _ | .bUZ _ => .branch .UZ
  | .oUS _ | .bUS _ => .branch .US
  | .oAZ _ | .bAZ _ => .branch .AZ
  | .oAS _ | .bAS _ => .branch .AS
  | .oKZ _ | .bKZ _ => .branch .KZ
  | .oKS _ | .bKS _ => .branch .KS
  | .oWY _ | .bWY _ => .branch .WY
  | .oRP nn => .linkBranch nn
  | .bCN nn => .countBranch nn
  | .gtr _ | .adr _ | .gta _ | .ikl _ | .dkl _ => .write16imm .K
  | .nol nn => .nol nn
  | .ixl _ | .dxl _ => .write16imm .X
  | .iyl _ | .dyl _ => .write16imm .Y
  | .izl _ | .dzl _ => .write16imm .Z
  | .ad nn | .gt nn | .an nn | .xr nn | .nr nn => .alu8 (.imm nn)
  | .lv nn | .av nn | .sv nn => .alu8V (.imm nn)
  | .stmx => .storeA .X
  | .lvmx | .avmx | .svmx => .alu8V (.mem .X)
  | .gtmx | .anmx | .xrmx | .nrmx => .alu8 (.mem .X)
  | .stmy => .storeA .Y
  | .lvmy | .avmy | .svmy => .alu8V (.mem .Y)
  | .gtmy | .anmy | .xrmy | .nrmy => .alu8 (.mem .Y)
  | .stmz => .storeA .Z
  | .lvmz | .avmz | .svmz => .alu8V (.mem .Z)
  | .gtmz | .anmz | .xrmz | .nrmz => .alu8 (.mem .Z)
  | .no2 => .idle1 2
  | .tk1 | .tk2 | .tk3 | .tk4 | .tk5 | .tk6 | .tk7 | .tk8 | .tk9 | .tka | .tkb | .tkc | .tkd | .tke | .tkf | .gtS |
    .ldS | .adS | .sdS | .gtX | .ldX | .adX | .sdX | .gtY | .ldY | .adY | .sdY | .gtZ | .ldZ | .adZ | .sdZ | .slK |
    .icK | .dcK | .zoK | .neK => .write16 .K
  | .no1 => .idle1 1
  | .ta1 | .ta2 | .ta3 | .ta4 | .ta5 | .ta6 | .ta7 | .ghS | .glS | .ghX | .glX | .ghY | .glY | .ghZ | .glZ | .zoA |
    .neA | .icA | .dcA => .writeA
  | .stB | .zoB | .neB => .writeB
  | .lvB | .avB | .svB => .alu8V .B
  | .gtB | .anB | .xrB | .nrB => .alu8 .B
  | .exS => .exchange16 .K .S
  | .lvS | .avS | .svS => .writeKV
  | .exX => .exchange16 .K .X
  | .esX => .exchange16 .S .X
  | .swX => .switchPage .X
  | .exY => .exchange16 .K .Y
  | .esY => .exchange16 .S .Y
  | .swY => .switchPage .Y
  | .exZ => .exchange16 .K .Z
  | .esZ => .exchange16 .S .Z
  | .swZ => .switchPage .Z
  | .rVZ => .jumpR .VZ
  | .rVS => .jumpR .VS
  | .rUZ => .jumpR .UZ
  | .rUS => .jumpR .US
  | .rAZ => .jumpR .AZ
  | .rAS => .jumpR .AS
  | .rKZ => .jumpR .KZ
  | .rKS => .jumpR .KS
  | .rWY => .jumpR .WY
  | .rCN => .countJumpR
  | .rIX | .rDX => .countJumpStep .X
  | .rIY | .rDY => .countJumpStep .Y
  | .rIZ | .rDZ => .countJumpStep .Z
  | .ixe | .dxe => .write16swapAB .X
  | .iye | .dye => .write16swapAB .Y
  | .ize | .dze => .write16swapAB .Z
  | .zoU | .seU | .cpU | .neU => .writeU
  | .zoV | .seV | .cpV | .neV | .tzA | .tzB => .writeV
  | .pvA | .rdA | .ruA | .ivA | .dvA => .writeAV
  | .pvB | .rdB | .ruB => .writeBV
  | .sRP => .write16 .R
  | .gtQ => .copyQ
  | .j => .jumpAndLink

/-- The table is right: every meaning is of the shape it says. -/
theorem exec_shape (i : Instr) : (shapeOf i).Of (exec i) := by
  cases i
  case h => exact .h
  case oVZ | bVZ | oVS | bVS | oUZ | bUZ | oUS | bUS | oAZ | bAZ | oAS | bAS | oKZ | bKZ | oKS | bKS | oWY | bWY
      =>
    exact .branch _ fun _ _ _ _ _ => rfl
  case oRP => exact .linkBranch _
  case bCN => exact .countBranch _
  case gtr | adr | gta | ikl | dkl | ixl | dxl | iyl | dyl | izl | dzl =>
    exact .write16imm _ fun _ _ _ _ _ => rfl
  case nol => exact .nol _
  case an | anB | anmx | anmy | anmz => exact .alu8 (· &&& ·) _
  case nr | nrB | nrmx | nrmy | nrmz => exact .alu8 (fun a m => ~~~(a ||| m)) _
  case xr | xrB | xrmx | xrmy | xrmz => exact .alu8 (· ^^^ ·) _
  case gt | gtB | gtmx | gtmy | gtmz => exact .alu8 (fun _ m => m) _
  case ad => exact .alu8 (· + ·) _
  case av | avB | avmx | avmy | avmz => exact .alu8V addCarry _
  case sv | svB | svmx | svmy | svmz => exact .alu8V subBorrow _
  case lv | lvB | lvmx | lvmy | lvmz => exact .alu8V (fun a m c => subBorrow m a c) _
  case stmx | stmy | stmz => exact .storeA _
  case no2 | no1 => exact .idle1 _
  case ta1 | ta2 | ta3 | ta4 | ta5 | ta6 | ta7 | ghS | glS | ghX | glX | ghY | glY | ghZ | glZ | zoA | neA | icA
      | dcA =>
    exact .writeA fun _ _ _ _ _ => rfl
  case stB | zoB | neB => exact .writeB fun _ _ _ _ _ => rfl
  case exS | exX | esX | exY | esY | exZ | esZ => exact .exchange16 _ _ nofun
  case lvS | avS | svS => exact .writeKV fun _ _ _ _ _ => rfl
  case swX | swY | swZ => exact .switchPage _
  case rVZ | rVS | rUZ | rUS | rAZ | rAS | rKZ | rKS | rWY => exact .jumpR _
  case rCN => exact .countJumpR
  case rIX | rDX | rIY | rDY | rIZ | rDZ => exact .countJumpStep _ fun _ _ _ _ _ => rfl
  case ixe | dxe | iye | dye | ize | dze => exact .write16swapAB _ fun _ _ _ _ _ => rfl
  case zoU | seU | cpU | neU => exact .writeU fun _ _ _ _ _ => rfl
  case zoV | seV | cpV | neV | tzA | tzB => exact .writeV fun _ _ _ _ _ => rfl
  case pvA | rdA | ruA | ivA | dvA => exact .writeAV fun _ _ _ _ _ => rfl
  case pvB | rdB | ruB => exact .writeBV fun _ _ _ _ _ => rfl
  case gtQ => exact .copyQ
  case j => exact .jumpAndLink
  all_goals exact .write16 _ fun _ _ _ _ _ => rfl

/-! What an instruction may change. -/

/-- The parts that an operation of this shape may change. -/
def Shape.writes : Shape → List Part
  | .alu8 _ | .writeA | .writeU => [.A]
  | .alu8V _ | .writeAV => [.A, .V]
  | .storeA _ | .idle1 _ => []
  | .writeB => [.B]
  | .writeV => [.V]
  | .writeBV => [.B, .V]
  | .writeKV => [.A, .B, .V]
  | .write16 r | .write16imm r => r.parts
  | .copyQ | .nol _ => [.A, .B]
  | .exchange16 r q => r.parts ++ q.parts
  | .write16swapAB r => .A :: .B :: r.reg.parts
  | .branch c | .jumpR c => if c.testsV then [.V] else []
  | .countJumpR | .countBranch _ => [.S]
  | .countJumpStep r => .S :: r.reg.parts
  | .linkBranch _ => [.R]
  | .jumpAndLink => [.R, .Q, .A, .B]
  | .switchPage _ => [.events]
  | .h => [.A, .halted, .inputs, .ioCount, .events, .output]

/-- Does every instruction of this shape take one cycle, and show nothing but the fetch in it (R457, R458)? -/
def Shape.oneCycle : Shape → Bool
  | .alu8 .B | .alu8V .B | .writeA | .writeB | .writeV | .writeU | .writeAV | .writeBV | .writeKV | .write16 _ | .copyQ
    | .exchange16 _ _ | .write16swapAB _ | .jumpR _ | .countJumpR | .countJumpStep _ | .jumpAndLink => true
  | .idle1 n => n = 1
  | _ => false

/-- Does an instruction of this shape show the platform more than its accesses (R57, R58)? -/
def Shape.signals : Shape → Bool
  | .switchPage _ | .h => true
  | _ => false

/-- How an instruction of this shape, begun in `s`, has ended in `t`. -/
inductive Ended (s t : State) : Shape → Prop
  /-- Without a data access, in `n` cycles. -/
  | retired {sh : Shape} {target : Word} {n : Nat} {o : Option Word} (hr : Retired target n o s t)
      (hf : t.fullCycles = ordinaryCycles n) (hn : sh.oneCycle = decide (n = 1)) (hs : sh.signals = false) : Ended s t sh
  /-- After a read through an address register: `u` is the state before its end. -/
  | loaded {sh : Shape} {r : PtrReg} {u : State} (ht : t = u.advanceRead r) (hp : u.platform = s.platform)
      (hc : u.cycles = s.cycles) (hn : sh.oneCycle = false) (hs : sh.signals = false) : Ended s t sh
  /-- After a store. -/
  | stored {r : PtrReg} (ht : t = s.advanceWrite r s.A) : Ended s t (.storeA r)
  /-- After a page switch. -/
  | switched {r : PtrReg} (h : Machine.switchPage r s = .next t) : Ended s t (.switchPage r)
  /-- `H..`. -/
  | ofH (h : execH s = .next t) : Ended s t .h

/-- The frame of a branch: V is listed where the branch tests it (R291 (c)). -/
theorem KeepsBut.of_branch {c : Cond} {s t : State} (hV : t.V = if c.testsV then false else s.V)
    (hk : KeepsBut [.V] s t) : KeepsBut (if c.testsV then [.V] else []) s t := by
  cases hc : c.testsV
  · rw [hc] at hV; exact hk.of_same hV
  · exact hk

/-- `H..` is one of its three cases (R333 to R336). -/
theorem execH_next {s t : State} (h : execH s = .next t) :
    s.memRead .FE (s.P + 1) = 0xff ∧ t = s.openPage.retireSignals s [(.FE, .BP)]
      ∨ s.memRead .FE (s.P + 1) = 0x00 ∧ t = s.outputAndHalt.retireSignals s [(.FE, .BP), (.KA, .BN)]
      ∨ (s.memRead .FE (s.P + 1) ≠ 0xff ∧ s.memRead .FE (s.P + 1) ≠ 0x00)
        ∧ t = s.inputAndCancel.retireSignals s [(.FE, .BP), (.HA, .BP)] := by
  by_cases hJ : s.memRead .FE (s.P + 1) = 0xff
  · rw [execH_of_jump hJ] at h
    cases h
    exact .inl ⟨hJ, rfl⟩
  by_cases hH : s.memRead .FE (s.P + 1) = 0x00
  · rw [execH_of_halt hH] at h
    cases h
    exact .inr (.inl ⟨hH, rfl⟩)
  · rw [execH_of_input hJ hH] at h
    cases h
    exact .inr (.inr ⟨⟨hJ, hH⟩, rfl⟩)

theorem execH_answers (s : State) : ∃ t, execH s = .next t := by
  by_cases hJ : s.memRead .FE (s.P + 1) = 0xff
  · exact ⟨_, execH_of_jump hJ⟩
  by_cases hH : s.memRead .FE (s.P + 1) = 0x00
  · exact ⟨_, execH_of_halt hH⟩
  · exact ⟨_, execH_of_input hJ hH⟩

theorem execH_keepsBut {s t : State} (h : execH s = .next t) : KeepsBut Shape.h.writes s t := by
  rcases execH_next h with ⟨-, rfl⟩ | ⟨-, rfl⟩ | ⟨-, rfl⟩
  · exact (s.openPage_keepsBut (by decide)).retireSignals _
  · exact (s.outputAndHalt_keepsBut.mono (by decide)).retireSignals _
  · exact (s.inputAndCancel_keepsBut.mono (by decide)).retireSignals _

/-- Every operation answers a next state. -/
theorem Shape.Of.answers {sh : Shape} {m : State → Result} (hm : sh.Of m) (s : State) : ∃ t, m s = .next t := by
  cases hm
  case nol nn => unfold execNol; split <;> exact ⟨_, rfl⟩
  case branch c target hv => exact branch_answers c (target s) s
  case jumpR c => exact jumpR_answers c s
  case countJumpR => exact countJumpR_answers id s
  case countJumpStep => exact countJumpR_answers _ s
  case countBranch nn => exact countBranch_answers nn s
  case h => exact execH_answers s
  all_goals exact ⟨_, rfl⟩

/-! Of a branch and of a counting loop the full cycles are stated in neither case, or in both. -/

theorem branch_fullCycles {c : Cond} {target : Word} {s t : State} (h : branch c target s = .next t) :
    t.fullCycles = none := by
  unfold branch at h
  split at h <;> cases h <;> rfl

theorem jumpR_fullCycles {c : Cond} {s t : State} (h : jumpR c s = .next t) : t.fullCycles = ordinaryCycles 1 := by
  unfold jumpR at h
  split at h <;> cases h <;> rfl

theorem countJumpR_fullCycles {step : State → State} {s t : State} (h : countJumpR step s = .next t) :
    t.fullCycles = ordinaryCycles 1 := by
  unfold countJumpR at h
  split at h <;> cases h <;> rfl

theorem countBranch_fullCycles {nn : Byte} {s t : State} (h : countBranch nn s = .next t) : t.fullCycles = none := by
  unfold countBranch at h
  split at h <;> cases h <;> rfl

/-- What an operation changes and how it ends. -/
theorem Shape.Of.next {sh : Shape} {m : State → Result} (hm : sh.Of m) {s t : State} (h : m s = .next t) :
    KeepsBut sh.writes s t ∧ Ended s t sh := by
  cases hm
  case alu8 f src =>
    obtain ⟨-, hr, hk⟩ := alu8_next h
    refine ⟨hk, ?_⟩
    cases h
    cases src
    case B | imm => exact .retired hr rfl rfl rfl
    case mem r => exact .loaded rfl rfl rfl rfl rfl
  case alu8V f src =>
    obtain ⟨-, hr, hk⟩ := alu8V_next h
    refine ⟨hk, ?_⟩
    cases h
    cases src
    case B | imm => exact .retired hr rfl rfl rfl
    case mem r => exact .loaded rfl rfl rfl rfl rfl
  case storeA r =>
    obtain ⟨-, -, -, -, hk⟩ := storeA_next h
    cases h
    exact ⟨hk, .stored rfl⟩
  case writeA hv => obtain ⟨-, hr, hk⟩ := writeA_next h; cases h; exact ⟨hk, .retired hr rfl rfl rfl⟩
  case writeB hv => obtain ⟨-, hr, hk⟩ := writeB_next h; cases h; exact ⟨hk, .retired hr rfl rfl rfl⟩
  case writeV hv => obtain ⟨-, hr, hk⟩ := writeV_next h; cases h; exact ⟨hk, .retired hr rfl rfl rfl⟩
  case writeU hv => obtain ⟨-, hr, hk⟩ := writeU_next h; cases h; exact ⟨hk, .retired hr rfl rfl rfl⟩
  case writeAV hv => obtain ⟨-, -, hr, hk⟩ := writeAV_next h; cases h; exact ⟨hk, .retired hr rfl rfl rfl⟩
  case writeBV hv => obtain ⟨-, -, hr, hk⟩ := writeBV_next h; cases h; exact ⟨hk, .retired hr rfl rfl rfl⟩
  case writeKV hv => obtain ⟨-, -, hr, hk⟩ := writeKV_next h; cases h; exact ⟨hk, .retired hr rfl rfl rfl⟩
  case write16 hv => obtain ⟨-, hr, hk⟩ := write16_next h; cases h; exact ⟨hk, .retired hr rfl rfl rfl⟩
  case copyQ => obtain ⟨-, hr, hk⟩ := write16_next h; cases h; exact ⟨hk, .retired hr rfl rfl rfl⟩
  case write16imm hv => obtain ⟨-, hr, hk⟩ := write16imm_next h; cases h; exact ⟨hk, .retired hr rfl rfl rfl⟩
  case exchange16 hrq => obtain ⟨-, -, hr, hk⟩ := exchange16_next hrq h; cases h; exact ⟨hk, .retired hr rfl rfl rfl⟩
  case write16swapAB hv =>
    obtain ⟨-, -, -, hr, hk⟩ := write16swapAB_next h; cases h; exact ⟨hk, .retired hr rfl rfl rfl⟩
  case idle1 => obtain ⟨hr, hk⟩ := idle1_next h; cases h; exact ⟨hk, .retired hr rfl rfl rfl⟩
  case nol nn =>
    unfold execNol at h
    split at h
    · obtain ⟨-, hr, hk⟩ := write16imm_next h
      cases h
      exact ⟨hk, .retired hr rfl rfl rfl⟩
    · obtain ⟨hr, hk⟩ := idle2_next h
      cases h
      exact ⟨hk.mono (List.nil_subset _), .retired hr rfl (by simp [Shape.oneCycle]; omega) rfl⟩
  case branch c target hv =>
    obtain ⟨hr, hV, hk⟩ := branch_next h
    refine ⟨.of_branch hV hk, ?_⟩
    have hf := branch_fullCycles h
    split at hr <;> exact .retired hr hf rfl rfl
  case jumpR c =>
    obtain ⟨hr, hV, hk⟩ := jumpR_next h
    exact ⟨.of_branch hV hk, .retired hr (jumpR_fullCycles h) rfl rfl⟩
  case countJumpR =>
    have hf := countJumpR_fullCycles h
    rcases countJumpR_next h with ⟨-, rfl⟩ | ⟨-, hr, hk⟩
    · exact ⟨((KeepsBut.refl _ s).set16 .S _ (List.Subset.refl _)).retire _ _ _,
        .retired (State.retire_retired rfl rfl _ _ _) hf rfl rfl⟩
    · exact ⟨hk.mono (List.nil_subset _), .retired hr hf rfl rfl⟩
  case countJumpStep r v hv =>
    have hf := countJumpR_fullCycles h
    rcases countJumpR_next h with ⟨-, rfl⟩ | ⟨-, hr, hk⟩
    · refine ⟨(((KeepsBut.refl _ s).set16 .S _ ?_).set16 r.reg _ (List.subset_cons_self _ _)).retire _ _ _,
        .retired (State.retire_retired ?_ ?_ _ _ _) hf rfl rfl⟩
      · exact List.cons_subset_cons _ (List.nil_subset _)
      · simp only [State.set16_platform]
      · simp only [State.set16_cycles]
    · exact ⟨hk.mono (List.nil_subset _), .retired hr hf rfl rfl⟩
  case countBranch nn =>
    have hf := countBranch_fullCycles h
    obtain ⟨⟨-, -, hr⟩ | ⟨-, -, hr⟩, hk⟩ := countBranch_next h <;> exact ⟨hk, .retired hr hf rfl rfl⟩
  case linkBranch nn =>
    cases h
    exact ⟨((KeepsBut.refl _ s).set16 .R _ (List.Subset.refl _)).retire _ _ _,
      .retired (State.retire_retired rfl rfl _ _ _) rfl rfl rfl⟩
  case jumpAndLink =>
    cases h
    exact ⟨((((KeepsBut.refl _ s).set16 .R _ (by decide)).set16 .Q _ (by decide)).set16 .K _ (by decide)).retire _ _ _,
      .retired (State.retire_retired rfl rfl _ _ _) rfl rfl rfl⟩
  case switchPage r => exact ⟨(switchPage_next h).2.2.2.2.2.2, .switched h⟩
  case h => exact ⟨execH_keepsBut h, .ofH h⟩

/-! What an instruction does not look at. -/

/-- The next state of an instruction that began in disguise, where the undisguised one is `t` and it took `d` cycles. -/
def State.disguised (t : State) (q : Word) (c d : Nat) : State := { t with Q := q, cycles := c + d }

/-- Begun in a state in disguise, the meaning answers the same next state, but for Q and the cycle counter. -/
def Unaffected (m : State → Result) (s t : State) : Prop :=
  ∃ d, t.cycles = s.cycles + d ∧ ∀ q c b f, m (s.disguise q c b f) = .next (t.disguised q c d)

/-- An operation whose one operand does not look at Q or the records. -/
theorem Unaffected.of_blind {α : Type} {op : α → State → Result} {v : State → α} (hv : Blind v) {s t : State}
    (h : Unaffected (op (v s)) s t) : Unaffected (fun s => op (v s) s) s t := by
  obtain ⟨d, hd, hm⟩ := h
  refine ⟨d, hd, fun q c b f => ?_⟩
  show op (v (s.disguise q c b f)) _ = _
  rw [hv s q c b f]
  exact hm q c b f

section Disguise
variable {s u : State} {q : Word} {c : Nat} {b : BusActivity} {f : Option (List (BusType × BusType))}

theorem State.openPage_disguise : (s.disguise q c b f).openPage = s.openPage.disguise q c b f := rfl

theorem State.outputAndHalt_disguise : (s.disguise q c b f).outputAndHalt = s.outputAndHalt.disguise q c b f := rfl

theorem State.inputAndCancel_disguise : (s.disguise q c b f).inputAndCancel = s.inputAndCancel.disguise q c b f := rfl

theorem State.retireSignals_disguise (l : List (BusType × BusType)) :
    (u.disguise q c b f).retireSignals (s.disguise q c b f) l = (u.retireSignals s l).disguised q c l.length := rfl

theorem State.get16_disguise {r : Reg16} (hr : r ≠ .Q) : (s.disguise q c b f).get16 r = s.get16 r := by
  cases r
  case Q => exact absurd rfl hr
  all_goals rfl

theorem State.set16_disguise {r : Reg16} (hr : r ≠ .Q) (v : Word) :
    (s.disguise q c b f).set16 r v = (s.set16 r v).disguise q c b f := by
  cases r
  case Q => exact absurd rfl hr
  all_goals rfl

theorem State.advance1_disguise (n : Nat) : (s.disguise q c b f).advance1 n = (s.advance1 n).disguised q c n := rfl

theorem State.advance2_disguise (n : Nat) : (s.disguise q c b f).advance2 n = (s.advance2 n).disguised q c n := rfl

end Disguise

/-- `H..` looks neither at Q nor at the records. -/
theorem execH_unaffected {s t : State} (h : execH s = .next t) : Unaffected execH s t := by
  rcases execH_next h with ⟨hJ, rfl⟩ | ⟨hH, rfl⟩ | ⟨⟨hJ, hH⟩, rfl⟩
  · refine ⟨_, congrArg (· + _) s.openPage_cycles, fun q c b f =>
      (exec_h_of_jump (s := s.disguise q c b f) hJ).trans ?_⟩
    rw [State.openPage_disguise, State.retireSignals_disguise]
  · refine ⟨_, congrArg (· + _) s.outputAndHalt_cycles, fun q c b f =>
      (exec_h_of_halt (s := s.disguise q c b f) hH).trans ?_⟩
    rw [State.outputAndHalt_disguise, State.retireSignals_disguise]
  · refine ⟨_, congrArg (· + _) s.inputAndCancel_cycles, fun q c b f =>
      (exec_h_of_input (s := s.disguise q c b f) hJ hH).trans ?_⟩
    rw [State.inputAndCancel_disguise, State.retireSignals_disguise]

/-- No operation but GT.Q looks at Q, none at the records, and one that does not write Q leaves it. -/
theorem Shape.Of.unaffected {sh : Shape} {m : State → Result} (hm : sh.Of m) (hQ : .Q ∉ sh.writes) (hcopy : sh ≠ .copyQ)
    {s t : State} (h : m s = .next t) : Unaffected m s t := by
  cases hm
  case alu8 f src => cases h; rcases src with _ | _ | ⟨_ | _ | _⟩ <;> exact ⟨_, rfl, fun _ _ _ _ => rfl⟩
  case alu8V f src => cases h; rcases src with _ | _ | ⟨_ | _ | _⟩ <;> exact ⟨_, rfl, fun _ _ _ _ => rfl⟩
  case storeA r => cases h; cases r <;> exact ⟨_, rfl, fun _ _ _ _ => rfl⟩
  case writeA v hv => cases h; exact .of_blind hv ⟨_, rfl, fun _ _ _ _ => rfl⟩
  case writeB v hv => cases h; exact .of_blind hv ⟨_, rfl, fun _ _ _ _ => rfl⟩
  case writeV v hv => cases h; exact .of_blind hv ⟨_, rfl, fun _ _ _ _ => rfl⟩
  case writeU v hv => cases h; exact .of_blind hv ⟨_, rfl, fun _ _ _ _ => rfl⟩
  case writeAV v hv => cases h; exact .of_blind hv ⟨_, rfl, fun _ _ _ _ => rfl⟩
  case writeBV v hv => cases h; exact .of_blind hv ⟨_, rfl, fun _ _ _ _ => rfl⟩
  case writeKV v hv => cases h; exact .of_blind hv ⟨_, rfl, fun _ _ _ _ => rfl⟩
  case write16 r v hv =>
    cases h
    have hr : r ≠ .Q := fun e => hQ (e ▸ List.mem_singleton.mpr rfl)
    exact .of_blind (op := Machine.write16 r) hv ⟨1, by simp, fun _ _ _ _ => by
      rw [Machine.write16, State.set16_disguise hr, State.advance1_disguise]⟩
  case write16imm r v hv =>
    cases h
    have hr : r ≠ .Q := fun e => hQ (e ▸ List.mem_singleton.mpr rfl)
    exact .of_blind (op := Machine.write16imm r) hv ⟨2, by simp, fun _ _ _ _ => by
      rw [Machine.write16imm, State.set16_disguise hr, State.advance2_disguise]⟩
  case copyQ => exact absurd rfl hcopy
  case exchange16 r q hrq =>
    cases h
    have hr : r ≠ .Q := fun e => hQ (e ▸ List.mem_append_left _ (List.mem_singleton.mpr rfl))
    have hq : q ≠ .Q := fun e => hQ (e ▸ List.mem_append_right _ (List.mem_singleton.mpr rfl))
    refine ⟨1, ?_, fun q' c b f => ?_⟩
    · simp only [State.advance1_cycles, State.set16_cycles]
    · simp only [Machine.exchange16, State.set16_disguise, State.get16_disguise, State.advance1_disguise, ne_eq, hr, hq,
        not_false_eq_true]
  case write16swapAB r v hv =>
    cases h
    refine .of_blind (op := Machine.write16swapAB r.reg) hv ?_
    cases r <;> exact ⟨_, rfl, fun _ _ _ _ => rfl⟩
  case idle1 n => cases h; exact ⟨_, rfl, fun _ _ _ _ => rfl⟩
  case nol nn =>
    unfold execNol at h ⊢
    split at h
    next hnn => cases h; exact ⟨_, rfl, fun _ _ _ _ => if_pos hnn⟩
    next hnn => cases h; exact ⟨_, rfl, fun _ _ _ _ => if_neg hnn⟩
  case branch c target hv =>
    refine .of_blind (op := Machine.branch c) hv ?_
    replace h : Machine.branch c (target s) s = .next t := h
    unfold Machine.branch at h ⊢
    split at h
    next hc => cases h; cases c <;> exact ⟨_, rfl, fun _ _ _ _ => if_pos hc⟩
    next hc => cases h; cases c <;> exact ⟨_, rfl, fun _ _ _ _ => if_neg hc⟩
  case jumpR c =>
    unfold Machine.jumpR at h ⊢
    split at h
    next hc => cases h; cases c <;> exact ⟨_, rfl, fun _ _ _ _ => if_pos hc⟩
    next hc => cases h; cases c <;> exact ⟨_, rfl, fun _ _ _ _ => if_neg hc⟩
  case countJumpR =>
    unfold Machine.countJumpR at h ⊢
    split at h
    next hS => cases h; exact ⟨_, rfl, fun _ _ _ _ => if_pos hS⟩
    next hS => cases h; exact ⟨_, rfl, fun _ _ _ _ => if_neg hS⟩
  case countJumpStep r v hv =>
    refine .of_blind (op := fun x => Machine.countJumpR (fun t => t.set16 r.reg x)) hv ?_
    replace h : Machine.countJumpR (fun t => t.set16 r.reg (v s)) s = .next t := h
    unfold Machine.countJumpR at h ⊢
    split at h
    next hS => cases h; cases r <;> exact ⟨_, rfl, fun _ _ _ _ => if_pos hS⟩
    next hS => cases h; cases r <;> exact ⟨_, rfl, fun _ _ _ _ => if_neg hS⟩
  case countBranch nn =>
    unfold Machine.countBranch at h ⊢
    split at h
    next hS => cases h; exact ⟨_, rfl, fun _ _ _ _ => if_pos hS⟩
    next hS => cases h; exact ⟨_, rfl, fun _ _ _ _ => if_neg hS⟩
  case linkBranch nn => cases h; exact ⟨_, rfl, fun _ _ _ _ => rfl⟩
  case jumpAndLink => exact absurd (by decide) hQ
  case switchPage r => cases h; exact ⟨_, rfl, fun _ _ _ _ => rfl⟩
  case h => exact execH_unaffected h

/-! The opcodes of the shapes. -/

/-- The instructions that the table of the parts names, by their opcodes: which may change this part (R25, R29, R30, D12). -/
def mayChange (op : Byte) : Part → Bool
  | .Q => op = 0xff
  | .R => op ∈ [0xf7, 0x51, 0xff]
  | .V => op ∈ [0x9a, 0x62, 0x6a, 0x72, 0x7a, 0xf4, 0x9b, 0x63, 0x6b, 0x73, 0x7b, 0x99, 0x61, 0x69,
      0x71, 0x79, 0xf5, 0xa2, 0xa3, 0xa1, 0xe2, 0xe3, 0xe7, 0xe6, 0xe8, 0xea, 0xe9, 0xeb,
      0xec, 0xee, 0xed, 0xef, 0x40, 0x41, 0x42, 0x43, 0xc0, 0xc1]
  | .halted | .output | .inputs | .ioCount => op = 0x00
  | .events => op ∈ [0x00, 0xaa, 0xb2, 0xba]
  | .res | .resetCount => false
  | .S | .X | .Y | .Z | .A | .B => true

/-- `STM%` (R141 to R143). -/
def PtrReg.storeOpcode : PtrReg → Byte
  | .X => 0x68 | .Y => 0x70 | .Z => 0x78

/-- `SW.%` (R330 to R332). -/
def PtrReg.switchOpcode : PtrReg → Byte
  | .X => 0xaa | .Y => 0xb2 | .Z => 0xba

/-- Can the opcode `op` be of an instruction that takes one cycle or not, and signals nothing (R457, R458)? -/
def plainOpcode (op : Byte) (oneCycle : Bool) : Bool :=
  op ∉ [0x00, 0xaa, 0xb2, 0xba] ∧ oneCycle = decide (op.toNat < 0x40 ∨ op.toNat > 0x80)

/-- Can an instruction of this shape have the opcode `op`? -/
def Shape.fits (op : Byte) : Shape → Bool
  | .storeA r => op = r.storeOpcode
  | .switchPage r => op = r.switchOpcode
  | .h => op = 0x00
  | .copyQ => op = 0xfe
  | sh => plainOpcode op sh.oneCycle

/-- The shape of an instruction writes what the table of the parts allows its opcode. -/
theorem shapeOf_mayChange (i : Instr) : (shapeOf i).writes.all (mayChange (opcode i)) = true := by
  cases i <;> rfl

theorem shapeOf_fits (i : Instr) : (shapeOf i).fits (opcode i) = true := by
  cases i <;> rfl

end Sys2Proof.Machine
end

section
/-! Certificate of O50 to O60, part two: the statements, from what holds of every shape. -/

namespace Sys2Proof.Machine

/-! Every instruction. -/

/-- Settles O50: every shape answers a next state. -/
theorem everyInstructionCompletes : Obligations.EveryInstructionCompletes :=
  fun i => (exec_shape i).answers

/-- Settles O51: RES and the halted state decide whether a step runs the reset, an instruction, or stops. -/
theorem stepStopsOnlyWhenTerminated : Obligations.StepStopsOnlyWhenTerminated := by
  intro s
  cases hRes : s.res with
  | some r => exact .inr ⟨fun h => (nomatch hRes.symm.trans h.2), s.takeReset r, by simp only [step, hRes]⟩
  | none =>
    cases hHalted : s.halted with
    | true => exact .inl ⟨⟨hHalted, hRes⟩, by simp only [step, hRes, hHalted, if_true]⟩
    | false =>
      rw [step_of_executes ⟨hHalted, hRes⟩]
      exact .inr ⟨fun h => (nomatch hHalted.symm.trans h.1), everyInstructionCompletes s.nextInstr s⟩

/-- The decoder reads an instruction back from its opcode and some byte after it. -/
theorem exists_decodeOp (i : Instr) : ∃ nn, decodeOp (opcode i) nn = i := by
  have h := (encode_isEncodedAs i).2 [0]
  unfold encode at h
  cases ho : (encodeRaw i).operand with
  | none => rw [ho] at h; exact ⟨_, decodeOp_of_decode h⟩
  | some nn => rw [ho] at h; exact ⟨_, decodeOp_of_decode h⟩

theorem eq_j_of_opcode {i : Instr} (h : opcode i = 0xff) : i = .j := by
  obtain ⟨nn, hi⟩ := exists_decodeOp i
  rw [← hi, h]
  rfl

theorem eq_gtQ_of_opcode {i : Instr} (h : opcode i = 0xfe) : i = .gtQ := by
  obtain ⟨nn, hi⟩ := exists_decodeOp i
  rw [← hi, h]
  rfl

theorem eq_h_of_opcode {i : Instr} (h : opcode i = 0x00) : i = .h := by
  obtain ⟨nn, hi⟩ := exists_decodeOp i
  rw [← hi, h]
  rfl

/-- A part that an instruction has changed is one that the table of the parts allows it. -/
theorem mayChange_of_changed {i : Instr} {s t : State} (h : exec i s = .next t) {p : Part} (hp : ¬ p.same s t) :
    mayChange (opcode i) p = true := by
  have hwritten : p ∈ (shapeOf i).writes := by
    by_contra hp'
    exact hp (((exec_shape i).next h).1 p hp')
  exact List.all_eq_true.mp (shapeOf_mayChange i) p hwritten

/-- How every instruction ends. -/
theorem exec_ended {i : Instr} {s t : State} (h : exec i s = .next t) : Ended s t (shapeOf i) :=
  ((exec_shape i).next h).2

/-- A store is a STM%, its address register told by the opcode. -/
theorem opcode_of_storeA {i : Instr} {r : PtrReg} (h : shapeOf i = .storeA r) : opcode i = r.storeOpcode := by
  have hfits := shapeOf_fits i
  rw [h] at hfits
  exact of_decide_eq_true hfits

/-- The address registers of the three stores, one by one. -/
theorem storeOpcode_cases {op : Byte} {a : Word} {s : State} {r : PtrReg} (ho : op = r.storeOpcode)
    (ha : a = s.get16 r.reg) : (op = 0x68 ∧ a = s.X) ∨ (op = 0x70 ∧ a = s.Y) ∨ (op = 0x78 ∧ a = s.Z) := by
  cases r
  case X => exact .inl ⟨ho, ha⟩
  case Y => exact .inr (.inl ⟨ho, ha⟩)
  case Z => exact .inr (.inr ⟨ho, ha⟩)

/-! Memory, and the opcode prefetched. -/

/-- `H..` leaves memory alone. -/
theorem execH_mem {s t : State} (h : execH s = .next t) : t.platform.mem = s.platform.mem := by
  rcases execH_next h with ⟨-, rfl⟩ | ⟨-, rfl⟩ | ⟨-, rfl⟩
  · simp [State.openPage]
  · simp [State.outputAndHalt, State.openPage]
  · simp [State.inputAndCancel, State.openPage]

/-- Of memory only a store changes a byte, the one at its address register. -/
theorem Ended.byteAt {s t : State} {sh : Shape} (h : Ended s t sh) (a : Word) :
    t.byteAt a = s.byteAt a ∨ ∃ r, sh = .storeA r ∧ a = s.get16 r.reg := by
  cases h
  case retired hr hf hn hs => exact .inl (hr.keepsMemory a)
  case loaded r u ht hp hc hn hs =>
    exact .inl (by rw [ht, State.byteAt, State.byteAt, State.advanceRead_platform, Platform.readAndFetch_mem, hp])
  case stored r ht =>
    by_cases ha : a = s.get16 r.reg
    · exact .inr ⟨r, rfl, ha⟩
    · rw [ht]
      exact .inl (Platform.writeAndFetch_get_other _ _ _ _ _ _ ha)
  case switched r h =>
    obtain ⟨-, -, hp, -⟩ := switchPage_next h
    exact .inl (by rw [State.byteAt, hp, Platform.pageSwitch_mem, Platform.read_mem, State.byteAt])
  case ofH h => exact .inl (by rw [State.byteAt, execH_mem h, State.byteAt])

/-- On the default platform the opcode prefetched is the byte of memory at P, but where a store went to that byte. -/
theorem Ended.prefetched {s t : State} {sh : Shape} (h : Ended s t sh) (hd : s.onDefault) :
    t.IR = t.byteAt t.P ∨ ∃ r, sh = .storeA r ∧ s.get16 r.reg = s.P + 1 := by
  cases h
  case retired hr hf hn hs => exact .inl (hr.onDefault hd).1
  case loaded r u ht hp hc hn hs =>
    have hu : u.platform.external = none := hp ▸ hd
    refine .inl ?_
    rw [ht, State.advanceRead_IR, State.byteAt, State.advanceRead_platform, Platform.readAndFetch_default hu]
    rfl
  case stored r ht =>
    by_cases hrace : s.get16 r.reg = s.P + 1
    · exact .inr ⟨r, rfl, hrace⟩
    · refine .inl ?_
      have hne : s.P + 1 ≠ s.get16 r.reg := Ne.symm hrace
      rw [ht, State.advanceWrite_IR, Platform.writeAndFetch_opcode hd _ _ _ _ hne]
      exact (Platform.writeAndFetch_get_other _ _ _ _ _ _ hne).symm
  case switched r h =>
    obtain ⟨hP, hIR, hp, -⟩ := switchPage_next h
    refine .inl ?_
    rw [hIR, hP, State.memRead_default hd, State.byteAt, State.byteAt, hp, Platform.pageSwitch_mem, Platform.read_mem]
  case ofH h =>
    have hIR : t.IR = s.memRead .FE t.P := by rcases execH_next h with ⟨-, rfl⟩ | ⟨-, rfl⟩ | ⟨-, rfl⟩ <;> rfl
    exact .inl (by rw [hIR, State.memRead_default hd, State.byteAt, State.byteAt, execH_mem h])

/-- Settles O57: the table of the parts for registers, halt, output, inputs and events, and the stores for memory. -/
theorem onlyTheseInstructionsWriteTheseRegisters : Obligations.OnlyTheseInstructionsWriteTheseRegisters := by
  intro i s t h
  have changed {p : Part} (hp : ¬ p.same s t) := mayChange_of_changed h hp
  refine ⟨fun hQ => ?Q, fun hR => ?R, fun hV => ?V, fun a ha => ?memory, fun hH => ?halted, fun hE => ?events, ?res, ?count⟩
  case Q => exact of_decide_eq_true (changed (p := .Q) hQ)
  case R => exact of_decide_eq_true (changed (p := .R) hR)
  case V => exact of_decide_eq_true (changed (p := .V) hV)
  case memory =>
    obtain hsame | ⟨r, hr, har⟩ := (exec_ended h).byteAt a
    · exact absurd hsame ha
    · exact storeOpcode_cases (opcode_of_storeA hr) har
  case halted =>
    rcases hH with hHalted | hOutput | hInputs
    · exact of_decide_eq_true (changed (p := .halted) hHalted)
    · exact of_decide_eq_true (changed (p := .output) hOutput)
    · exact of_decide_eq_true (changed (p := .inputs) hInputs)
  case events => exact of_decide_eq_true (changed (p := .events) hE)
  case res => exact not_not.mp fun hres => nomatch changed (p := .res) hres
  case count => exact not_not.mp fun hcount => nomatch changed (p := .resetCount) hcount

/-- Settles O53: the fields of the state after reset. -/
theorem resetStateOfTheSpecAndTheModel : Obligations.ResetStateOfTheSpecAndTheModel :=
  ⟨rfl, rfl, rfl, rfl, rfl, rfl, rfl, rfl, rfl⟩

/-- Settles O54: memory after reset is canonical, and the CPU runs. -/
theorem resetHasTheInvariant : Obligations.ResetHasTheInvariant :=
  ⟨State.reset_wf, nofun⟩

end Sys2Proof.Machine
end

section
/-! Certificate of O50 to O60, part three: the statements about a step, a reset or an instruction, and what they leave alone. -/

namespace Sys2Proof.Machine

/-- A step that answers a next state has taken a reset or run the next instruction. -/
theorem step_next {s t : State} (h : step s = .next t) :
    (∃ r, s.res = some r ∧ t = s.takeReset r) ∨ (s.executes ∧ exec s.nextInstr s = .next t) := by
  cases hres : s.res with
  | some r =>
    simp only [step, hres] at h
    cases h
    exact .inl ⟨r, rfl, rfl⟩
  | none =>
    cases hHalted : s.halted with
    | true => simp only [step, hres, hHalted, if_true] at h; cases h
    | false => exact .inr ⟨⟨hHalted, hres⟩, by rwa [step_of_executes ⟨hHalted, hres⟩] at h⟩

theorem opcode_nextInstr (s : State) : opcode s.nextInstr = s.IR := opcode_decodeOp _ _

/-! The invariants. -/

/-- On the default platform an abandoned instruction leaves the default one. -/
theorem abandon_onDefault {s : State} (h : s.onDefault) : s.abandon.onDefault := by
  unfold State.abandon
  split
  · exact h
  · exact Platform.run_default h _

/-- After a reset on the default platform the opcode prefetched is the byte of memory at START. -/
theorem takeReset_prefetched {s : State} (h : s.onDefault) (r : ResetInput) :
    (s.takeReset r).onDefault ∧ (s.takeReset r).IR = (s.takeReset r).byteAt r.start := by
  obtain ⟨-, -, -, -, -, hfetch, -⟩ := takeReset_eq s r
  rw [Platform.read_default (abandon_onDefault h), Prod.mk.injEq] at hfetch
  obtain ⟨hIR, hp⟩ := hfetch
  rw [State.onDefault, State.byteAt, hIR, hp]
  exact ⟨abandon_onDefault h, rfl⟩

/-- Settles O56: a reset and an instruction prefetch the byte at the new P, but for a store to it. -/
theorem thePrefetchedOpcodeIsTheByteAtP : Obligations.ThePrefetchedOpcodeIsTheByteAtP := by
  intro s t hd h
  rcases step_next h with ⟨r, -, rfl⟩ | ⟨hs, hexec⟩
  · obtain ⟨hd', hIR⟩ := takeReset_prefetched hd r
    exact ⟨hd', .inl hIR⟩
  · refine ⟨exec_onDefault _ _ _ hexec hd, ?_⟩
    rcases (exec_ended hexec).prefetched hd with hIR | ⟨r, hr, ha⟩
    · exact .inl hIR
    · have ho := opcode_of_storeA hr
      rw [opcode_nextInstr] at ho
      refine .inr ⟨hs, ?_⟩
      rcases storeOpcode_cases ho ha.symm with ⟨h1, h2⟩ | ⟨h1, h2⟩ | ⟨h1, h2⟩
      · exact .inl ⟨h1, h2.symm⟩
      · exact .inr (.inl ⟨h1, h2.symm⟩)
      · exact .inr (.inr ⟨h1, h2.symm⟩)

/-- An `H..` that halts the CPU has fetched a second one and shown K as its last output (R35, R336). -/
theorem execH_halts {s t : State} (hs : s.halted = false) (h : execH s = .next t) (ht : t.halted = true) :
    t.IR = 0x00 ∧ t.platform.output = some t.K ∧ t.platform.events.getLast? = some (.kOut t.K) := by
  rcases execH_next h with ⟨-, rfl⟩ | ⟨hH, rfl⟩ | ⟨-, rfl⟩
  · simp [State.openPage, hs] at ht
  · exact ⟨hH, rfl, by simp [State.outputAndHalt, Platform.kOut]; rfl⟩
  · simp [State.inputAndCancel, State.openPage, hs] at ht

/-- An instruction that halts the CPU is an `H..`. -/
theorem exec_halts {i : Instr} {s t : State} (hs : s.halted = false) (h : exec i s = .next t) (ht : t.halted = true) :
    i = .h := by
  have hchanged : ¬ Part.halted.same s t := fun e => by
    have e' : t.halted = s.halted := e
    rw [ht, hs] at e'
    cases e'
  exact eq_h_of_opcode (of_decide_eq_true (mayChange_of_changed h hchanged))

/-- Settles O55: a reset clears the halt, and of the instructions only an `H..` halts. -/
theorem everyStepKeepsTheInvariant : Obligations.EveryStepKeepsTheInvariant := by
  rintro s t ⟨hwf, -⟩ h
  rcases step_next h with ⟨r, -, rfl⟩ | ⟨⟨hs, -⟩, hexec⟩
  · obtain ⟨-, -, -, hHalted, -⟩ := takeReset_eq s r
    refine ⟨?_, fun ht => nomatch hHalted.symm.trans ht⟩
    show (s.abandon.platform.read .FE r.start).2.mem.wf = true
    rw [Platform.read_mem]
    exact abandon_wf hwf
  · refine ⟨exec_wf _ _ _ hexec hwf, fun ht => ?_⟩
    rw [exec_halts hs hexec ht] at hexec
    exact execH_halts hs hexec ht

/-! What influences nothing. -/

/-- Only J.. writes Q. -/
theorem Q_not_mem_writes {i : Instr} (h : i ≠ .j) : .Q ∉ (shapeOf i).writes := fun hQ =>
  h (eq_j_of_opcode (of_decide_eq_true (List.all_eq_true.mp (shapeOf_mayChange i) _ hQ)))

/-- Only GT.Q copies it. -/
theorem shapeOf_ne_copyQ {i : Instr} (h : i ≠ .gtQ) : shapeOf i ≠ .copyQ := fun hc => by
  have hfits := shapeOf_fits i
  rw [hc] at hfits
  exact h (eq_gtQ_of_opcode (of_decide_eq_true hfits))

/-- No other instruction looks at Q, and none at the records. -/
theorem exec_unaffected {i : Instr} (hj : i ≠ .j) (hq : i ≠ .gtQ) {s t : State} (h : exec i s = .next t) :
    Unaffected (exec i) s t :=
  (exec_shape i).unaffected (Q_not_mem_writes hj) (shapeOf_ne_copyQ hq) h

/-- Settles O58: J.. overwrites Q, and no other instruction but GT.Q looks at it. -/
theorem onlyGtQReadsQ : Obligations.OnlyGtQReadsQ := by
  intro i s t q hq h
  by_cases hj : i = .j
  · subst hj
    cases h
    rfl
  · obtain ⟨d, hd, hdisguise⟩ := exec_unaffected hj hq h
    rw [if_neg hj]
    refine (hdisguise q s.cycles s.bus s.fullCycles).trans ?_
    rw [State.disguised, ← hd]

/-- The cycle counter and the records change nothing in what an instruction does but the cycle counter after it. -/
theorem exec_retimed {i : Instr} {s t : State} (h : exec i s = .next t) (c : Nat) (b : BusActivity)
    (f : Option (List (BusType × BusType))) : ∃ c', exec i (s.disguise s.Q c b f) = .next { t with cycles := c' } := by
  by_cases hj : i = .j
  · subst hj
    cases h
    exact ⟨_, rfl⟩
  by_cases hq : i = .gtQ
  · subst hq
    cases h
    exact ⟨_, rfl⟩
  obtain ⟨d, -, hdisguise⟩ := exec_unaffected hj hq h
  have hQ : t.Q = s.Q := ((exec_shape i).next h).1 .Q (Q_not_mem_writes hj)
  refine ⟨c + d, (hdisguise s.Q c b f).trans ?_⟩
  rw [State.disguised, ← hQ]

/-- What an instruction does to the platform does not depend on the records. -/
theorem platformActions_disguise (s : State) (i : Instr) (c : Nat) (b : BusActivity)
    (f : Option (List (BusType × BusType))) : (s.disguise s.Q c b f).platformActions i = s.platformActions i := by
  obtain ⟨t, h⟩ := everyInstructionCompletes i s
  obtain ⟨c', h'⟩ := exec_retimed h c b f
  simp only [State.platformActions, h, h']
  rfl

theorem abandon_disguise (s : State) (c : Nat) (b : BusActivity) (f : Option (List (BusType × BusType))) :
    (s.disguise s.Q c b f).abandon = s.abandon.disguise s.abandon.Q c b f := by
  have hnext : (s.disguise s.Q c b f).nextInstr = s.nextInstr := rfl
  unfold State.abandon
  rw [hnext, platformActions_disguise]
  split
  next hh => rw [if_pos (show s.halted = true from hh)]
  next hh => rw [if_neg (show ¬ s.halted = true from hh)]; rfl

theorem takeReset_disguise (s : State) (r : ResetInput) (c : Nat) (b : BusActivity)
    (f : Option (List (BusType × BusType))) :
    (s.disguise s.Q c b f).takeReset r = { s.takeReset r with cycles := c } := by
  rw [State.takeReset, abandon_disguise]
  rfl

/-- Settles O59: neither an instruction nor a reset looks at the cycle counter or the records. -/
theorem timingAndBusRecordInfluenceNothing : Obligations.TimingAndBusRecordInfluenceNothing := by
  intro s t c b f h
  rcases step_next h with ⟨r, hr, rfl⟩ | ⟨hs, hexec⟩
  · refine ⟨c, ?_⟩
    show step (s.disguise s.Q c b f) = _
    have hr' : (s.disguise s.Q c b f).res = some r := hr
    simp only [step, hr', takeReset_disguise]
  · obtain ⟨c', h'⟩ := exec_retimed hexec c b f
    exact ⟨c', (step_of_executes (s := s.disguise s.Q c b f) hs).trans h'⟩

/-! The full cycles. -/

/-- The full cycles the spec states for an instruction with this opcode, begun in `s` (R457, R458). -/
def State.knownCycles (s : State) (op : Byte) : Option (List (BusType × BusType)) :=
  if op = 0x00 then
    (if s.memRead .FE (s.P + 1) = 0xff then some [(.FE, .BP)]
     else if s.memRead .FE (s.P + 1) = 0x00 then some [(.FE, .BP), (.KA, .BN)]
     else some [(.FE, .BP), (.HA, .BP)])
  else if op = 0xaa then some [(.FE, .BX)]
  else if op = 0xb2 then some [(.FE, .BY)]
  else if op = 0xba then some [(.FE, .BZ)]
  else if op.toNat < 0x40 ∨ op.toNat > 0x80 then some [(.FE, .BN)]
  else none

/-- The record of the full cycles is `known`, and where it is not empty it is of pairs (tA, tB) and as long as the time
that has passed. -/
def ShowsCycles (s t : State) (known : Option (List (BusType × BusType))) : Prop :=
  t.fullCycles = known ∧ ∀ l : List (BusType × BusType), t.fullCycles = some l → t.cycles = s.cycles + l.length
    ∧ ∀ c ∈ l, c.1.half = .tA ∧ c.2.half = .tB

theorem ShowsCycles.of_some {s t : State} {l : List (BusType × BusType)} (hf : t.fullCycles = some l)
    (hc : t.cycles = s.cycles + l.length) (hh : ∀ c ∈ l, c.1.half = .tA ∧ c.2.half = .tB) : ShowsCycles s t (some l) := by
  refine ⟨hf, fun l' hl' => ?_⟩
  rw [hf, Option.some_inj] at hl'
  exact hl' ▸ ⟨hc, hh⟩

theorem ShowsCycles.of_none {s t : State} (hf : t.fullCycles = none) : ShowsCycles s t none :=
  ⟨hf, fun _ hl => nomatch hf.symm.trans hl⟩

/-- The sequence of one full cycle, (FE/BN), and that of more, which the spec does not state. -/
theorem ShowsCycles.of_ordinary {s t : State} {n : Nat} (hf : t.fullCycles = ordinaryCycles n)
    (hc : t.cycles = s.cycles + n) : ShowsCycles s t (ordinaryCycles n) := by
  unfold ordinaryCycles at hf ⊢
  split at hf
  next hn => subst hn; exact .of_some hf hc (by decide)
  next hn => rw [if_neg hn]; exact .of_none hf

/-- An instruction that signals nothing has a plain opcode. -/
theorem plainOpcode_of_fits {sh : Shape} {op : Byte} (h : sh.fits op = true) (hs : sh.signals = false) :
    plainOpcode op sh.oneCycle = true := by
  cases sh
  case storeA r => rw [of_decide_eq_true h]; cases r <;> decide
  case copyQ => rw [of_decide_eq_true h]; decide
  case switchPage => cases hs
  case h => cases hs
  all_goals exact h

/-- With a plain opcode an instruction of one cycle is known, and no other. -/
theorem knownCycles_of_plain {op : Byte} {n : Nat} (h : plainOpcode op (decide (n = 1)) = true) (s : State) :
    s.knownCycles op = ordinaryCycles n := by
  simp only [plainOpcode, List.mem_cons, List.not_mem_nil, or_false, not_or, Bool.decide_and, Bool.and_eq_true,
    decide_eq_true_eq, decide_eq_decide] at h
  obtain ⟨⟨hH, hX, hY, hZ⟩, hn⟩ := h
  rw [State.knownCycles, if_neg hH, if_neg hX, if_neg hY, if_neg hZ, ordinaryCycles]
  exact if_congr hn.symm rfl rfl

theorem knownCycles_of_switch (r : PtrReg) (s : State) : s.knownCycles r.switchOpcode = some [(.FE, r.pageType)] := by
  cases r <;> rfl

/-- `H..` shows the full cycles of the one of its three cases that it is (R333 to R336). -/
theorem execH_showsCycles {s t : State} (h : execH s = .next t) : ShowsCycles s t (s.knownCycles 0x00) := by
  rw [State.knownCycles, if_pos rfl]
  rcases execH_next h with ⟨hJ, rfl⟩ | ⟨hH, rfl⟩ | ⟨⟨hJ, hH⟩, rfl⟩
  · rw [if_pos hJ]
    exact .of_some rfl (congrArg (· + _) s.openPage_cycles) (by decide)
  · rw [hH, if_neg (by decide), if_pos rfl]
    exact .of_some rfl (congrArg (· + _) s.outputAndHalt_cycles) (by decide)
  · rw [if_neg hJ, if_neg hH]
    exact .of_some rfl (congrArg (· + _) s.inputAndCancel_cycles) (by decide)

/-- Every instruction shows the full cycles that the spec states for its opcode. -/
theorem exec_showsCycles {i : Instr} {s t : State} (h : exec i s = .next t) :
    ShowsCycles s t (s.knownCycles (opcode i)) := by
  have hended := exec_ended h
  have hfits := shapeOf_fits i
  have plain {n : Nat} (hn : (shapeOf i).oneCycle = decide (n = 1)) (hs : (shapeOf i).signals = false)
      (hf : t.fullCycles = ordinaryCycles n) (hc : t.cycles = s.cycles + n) :
      ShowsCycles s t (s.knownCycles (opcode i)) := by
    rw [knownCycles_of_plain (hn ▸ plainOpcode_of_fits hfits hs)]
    exact .of_ordinary hf hc
  generalize shapeOf i = sh at hended hfits plain
  cases hended
  case retired hr hf hn hs =>
    obtain ⟨-, -, hc, -⟩ := hr
    exact plain hn hs hf hc
  case loaded r u ht hp hc hn hs => exact plain (n := 2) hn hs (ht ▸ rfl) (by rw [ht, State.advanceRead_cycles, hc])
  case stored r ht => exact plain (n := 2) rfl rfl (ht ▸ rfl) (ht ▸ rfl)
  case switched r h =>
    obtain ⟨-, -, -, hc, hf, -⟩ := switchPage_next h
    rw [of_decide_eq_true hfits, knownCycles_of_switch]
    exact .of_some hf hc (by cases r <;> decide)
  case ofH h => rw [of_decide_eq_true hfits]; exact execH_showsCycles h

/-- Settles O60: every instruction shows the cycles known of it, and a reset shows (FE/BN). -/
theorem knownFullCycles : Obligations.KnownFullCycles := by
  refine fun s t => ⟨fun i h => exec_showsCycles h, fun r hr h => ?_⟩
  simp only [step, hr] at h
  cases h
  rfl

/-! Reset. -/

/-- Of the platform's actions on canonical memory only a write changes a byte, and it leaves the one it writes. -/
theorem Platform.act_get {pi : Platform} (hwf : pi.mem.wf = true) (x : PlatformAction) (a : Word) :
    (pi.act x).mem.get a.toNat = pi.mem.get a.toNat ∨ ∃ ty, x = .write ty a ((pi.act x).mem.get a.toNat) := by
  cases x
  case write ty b v =>
    by_cases hab : a = b
    · subst hab
      cases he : pi.external with
      | none =>
        right
        refine ⟨ty, ?_⟩
        rw [Platform.act, Platform.write_default he, Memory.get_set_same _ 0 _ _ hwf]
      | some e => left; simp only [Platform.act, Platform.write, he]
    · exact .inl (Platform.write_get_other pi ty b a v hab)
  all_goals left; simp [Platform.act]

/-- So a byte that a list of actions has changed is one that the last write to it has left. -/
theorem Platform.run_get {pi : Platform} (hwf : pi.mem.wf = true) (l : List PlatformAction) (a : Word) :
    (pi.run l).mem.get a.toNat = pi.mem.get a.toNat ∨ ∃ ty, .write ty a ((pi.run l).mem.get a.toNat) ∈ l := by
  induction l generalizing pi with
  | nil => exact .inl rfl
  | cons x l ih =>
    rcases ih (Platform.act_wf pi x hwf) with hrest | ⟨ty, hmem⟩
    · rcases Platform.act_get hwf x a with hx | ⟨ty, hx⟩
      · exact .inl (hrest.trans hx)
      · refine .inr ⟨ty, ?_⟩
        rw [Platform.run, hrest, ← hx]
        exact List.mem_cons_self
    · exact .inr ⟨ty, List.mem_cons_of_mem _ hmem⟩

/-- No instruction signals a write. -/
theorem write_not_mem_signals (s : State) (i : Instr) (op : Byte) (ty : BusType) (a : Word) (v : Byte) :
    .write ty a v ∉ s.signals i op := by
  unfold State.signals
  intro h
  split_ifs at h <;> simp at h

theorem write_not_mem_actions {b : BusActivity} (hb : b.data = none) (ty : BusType) (a : Word) (v : Byte) :
    .write ty a v ∉ b.actions := by
  simp [BusActivity.actions, hb]

/-- A data read through an address register is no write. -/
theorem write_not_mem_read (b : BusActivity) (r : PtrReg) (addr : Word) (byte : Byte)
    (hb : b.data = some { type := r.readType, addr := addr, byte := byte }) (ty : BusType) (a : Word) (v : Byte) :
    .write ty a v ∉ b.actions := by
  unfold BusActivity.actions
  rw [hb]
  cases r <;> cases Config.fetchOrder <;> simp [DataAccess.action, PtrReg.readType]

/-- The write among the accesses of a store is its data access. -/
theorem mem_actions_of_store {b : BusActivity} {r : PtrReg} {addr : Word} {byte : Byte}
    (hb : b.data = some { type := r.writeType, addr := addr, byte := byte }) {ty : BusType} {a : Word} {v : Byte}
    (h : .write ty a v ∈ b.actions) : a = addr ∧ v = byte := by
  unfold BusActivity.actions at h
  rw [hb] at h
  cases r <;> cases hf : Config.fetchOrder <;> simp [hf, DataAccess.action, PtrReg.writeType] at h <;> exact h.2

/-- Of the instructions only a STM% writes, A to the address in its register. -/
theorem write_mem_platformActions {s : State} {i : Instr} {ty : BusType} {a : Word} {v : Byte}
    (h : .write ty a v ∈ s.platformActions i) : ∃ r, shapeOf i = .storeA r ∧ a = s.get16 r.reg ∧ v = s.A := by
  obtain ⟨t, ht⟩ := everyInstructionCompletes i s
  simp only [State.platformActions, ht] at h
  have hw := (List.mem_append.mp h).resolve_right (write_not_mem_signals _ _ _ _ _ _)
  have hended := exec_ended ht
  generalize shapeOf i = sh at hended ⊢
  cases hended
  case retired hr hf hn hs =>
    obtain ⟨-, -, -, hb⟩ := hr
    exact absurd hw (write_not_mem_actions (by rw [hb]) _ _ _)
  case loaded r u ht' hp hc hn hs =>
    exact absurd hw (write_not_mem_read _ r _ _ (by rw [ht', State.advanceRead_bus]) _ _ _)
  case stored r ht' => exact ⟨r, rfl, mem_actions_of_store (r := r) (by rw [ht', State.advanceWrite_bus]) hw⟩
  case switched r h' =>
    obtain ⟨-, -, -, -, -, hb, -⟩ := switchPage_next h'
    exact absurd hw (write_not_mem_actions (by rw [hb]) _ _ _)
  case ofH h' =>
    refine absurd hw (write_not_mem_actions ?_ _ _ _)
    rcases execH_next h' with ⟨-, rfl⟩ | ⟨-, rfl⟩ | ⟨-, rfl⟩ <;> rfl

/-- What an abandoned instruction has shown the platform. -/
theorem abandon_platform (s : State) :
    if s.halted then s.abandon.platform = s.platform
    else ∃ k, s.abandon.platform = s.platform.run ((s.platformActions s.nextInstr).take k) := by
  unfold State.abandon
  split
  · rfl
  · exact ⟨_, rfl⟩

/-- Of memory an abandoned instruction has changed at most the byte that a STM% stores. -/
theorem abandon_byteAt {s : State} (hwf : s.platform.mem.wf = true) (a : Word) :
    s.abandon.byteAt a = s.byteAt a ∨ (s.halted = false ∧ s.abandon.byteAt a = s.A
      ∧ ((s.IR = 0x68 ∧ a = s.X) ∨ (s.IR = 0x70 ∧ a = s.Y) ∨ (s.IR = 0x78 ∧ a = s.Z))) := by
  have hp := abandon_platform s
  split at hp
  next hh => exact .inl (by rw [State.byteAt, hp, State.byteAt])
  next hh =>
    obtain ⟨k, hk⟩ := hp
    rw [State.byteAt, hk]
    rcases Platform.run_get hwf _ a with hsame | ⟨ty, hw⟩
    · exact .inl hsame
    · obtain ⟨r, hr, ha, hv⟩ := write_mem_platformActions (List.mem_of_mem_take hw)
      have ho := opcode_of_storeA hr
      rw [opcode_nextInstr] at ho
      exact .inr ⟨Bool.eq_false_of_not_eq_true hh, hv, storeOpcode_cases ho ha⟩

/-- Settles O52: the reset entry on the platform that the abandoned instruction has left. -/
theorem resetLoadsPRAndA : Obligations.ResetLoadsPRAndA := by
  intro s r hwf hres
  obtain ⟨hP, hR, hA, hHalted, hres', hfetch, -, hcount⟩ := takeReset_eq s r
  refine ⟨s.takeReset r, by simp only [step, hres], hP, hR, hA, hHalted, hres', hcount,
    ⟨s.abandon.platform, hfetch, abandon_platform s⟩, fun hd => takeReset_prefetched hd r, fun a => ?_⟩
  have hbyte : (s.takeReset r).byteAt a = s.abandon.byteAt a := by
    have hp : (s.takeReset r).platform = (s.abandon.platform.read .FE r.start).2 := congrArg Prod.snd hfetch
    rw [State.byteAt, hp, Platform.read_mem, State.byteAt]
  rw [hbyte]
  exact abandon_byteAt hwf a

end Sys2Proof.Machine
end
